-- ==== Sys2Proof/Word.lean ====
section
/-! DEFINITION. The plain data the node exchanges with the bus and the pins: bytes, identifiers, payloads, frames, pin
levels and the exact magnitude type. -/

namespace Sys2Proof

/-- One payload byte. -/
abbrev Byte := BitVec 8

/-- A bus identifier: an unsigned 11-bit value, `0x000` to `0x7FF` (R51; `ID_WIDTH` of R6). -/
abbrev Ident := BitVec 11

/-- The 32-bit magnitude word of a SetPower frame (R76). -/
abbrev Word32 := BitVec 32

/-- A magnitude or duty: an exact rational, read as a percentage of full drive (R26). The range `0 ≤ m ≤ 100` is not
part of the type: `Sys2Proof.Machine.State.Inv` says it and the step keeps it. -/
abbrev Mag := Rat

/-- The exact minimum of two ordered values (`min` of R10). -/
def minMag (a b : Mag) : Mag := if a ≤ b then a else b

/-- The level of a discrete input, `0` (low) or `1` (high) (`Sample(pin)` of R10). -/
inductive Level where
  /-- Reads `0`: the switch is closed (R12). -/
  | low
  /-- Reads `1`: the switch is open, pulled up (R12). -/
  | high
deriving DecidableEq, Repr

/-- Which of the two limit switches (R6 `LIMIT_INPUTS`). -/
inductive Limit where
  | upper
  | lower
deriving DecidableEq, Repr

/-- The eight payload bytes `data[0..7]`, in the order they travel on the bus (R9, R34). -/
structure Payload where
  d0 : Byte
  d1 : Byte
  d2 : Byte
  d3 : Byte
  d4 : Byte
  d5 : Byte
  d6 : Byte
  d7 : Byte
deriving DecidableEq, Repr

/-- `data[i]`. -/
def Payload.byte (p : Payload) (i : Fin 8) : Byte :=
  match i with
  | 0 => p.d0
  | 1 => p.d1
  | 2 => p.d2
  | 3 => p.d3
  | 4 => p.d4
  | 5 => p.d5
  | 6 => p.d6
  | 7 => p.d7

/-- A bus frame `(id, dlc, data)` (R34, R70): an 11-bit identifier, a payload byte count from 0 to 8 (`MAX_PAYLOAD` of
R6) and eight payload bytes. The bytes at indices `≥ dlc` are whatever the environment supplied (R34, D5). -/
structure Frame where
  id   : Ident
  dlc  : Fin 9
  data : Payload
deriving DecidableEq, Repr

end Sys2Proof
end

