-- ==== Sys2Proof/Config.lean ====
section
/-! DEFINITION. What a build fixes (R6, R7): the build parameters, the constants the source fixes for every build, and the
open values no rule reads (R105, R28). -/

namespace Sys2Proof

/-- The build parameter `PROTOCOL` (R3, R6). -/
inductive Protocol where
  | direction
  | duty
deriving DecidableEq, Repr

/-- The build parameter `POWER_ENCODING` (R6, D4): how a SetPower word is read. -/
inductive PowerEncoding where
  | binary32
  | int32
deriving DecidableEq, Repr

/-- The build parameters of R6 that some rule reads. They are arguments of the model: a `State` carries its node's build,
no step changes it (R7), so a statement over every state is a statement over every build. `PALETTE` is `Config.palette`. -/
structure Build where
  /-- `PROTOCOL`. -/
  protocol : Protocol
  /-- `LIMIT_STOP = ON`. -/
  limitStop : Bool
  /-- `POWER_ENCODING`; read only when `protocol` is `duty` (R6, R79). -/
  powerEncoding : PowerEncoding
  /-- `BASE_ADDRESS`, an integer from 0 to 0x7F0. -/
  baseAddress : Nat
  /-- `MAX_DUTY`, a rational from 0 to 100. -/
  maxDuty : Mag
  /-- `DIRECTION_DUTY`, a rational from 0 to 100. -/
  directionDuty : Mag
deriving DecidableEq, Repr

/-- The frame formats of `30_encoding.md`: two inbound (R71, R72), one outbound (R73). -/
inductive Format where
  | dirCmd
  | dutyCmd
  | status
deriving DecidableEq, Repr

/-- The inbound format a protocol's decoder reads (R82). -/
def Protocol.format : Protocol → Format
  | .direction => .dirCmd
  | .duty => .dutyCmd

/-- The variant string of R4, `DCMD-<protocol>-<limit>[-<encoding>]`. -/
def Build.variant (b : Build) : String :=
  "DCMD-" ++
  (match b.protocol with
    | .direction => "DIR"
    | .duty => "DUTY") ++
  (if b.limitStop then "-LS" else "-NOLS") ++
  (match b.protocol, b.powerEncoding with
    | .direction, _ => ""
    | .duty, .binary32 => "-F32"
    | .duty, .int32 => "-I32")

/-- A colour of the indicator, by name: the spec gives no RGB value (R105), so the number stands for nothing but itself
(log entry 6). -/
structure Colour where
  name : Nat
deriving DecidableEq, Repr, Inhabited

namespace Config

/-- `STATUS_ID` (R6). -/
def statusId : Ident := 0x000

/-- `STATUS_OPCODE` (R6), "limit reached". -/
def statusOpcode : Byte := 0x30

/-- `PALETTE[0..3]` (R6, R105): OPEN, uninterpreted. FREE VALUE: no body, nothing can be proved of the colours. -/
opaque palette : Fin 4 → Colour

/-- The colour an indicator shows that the core has not driven since power-on (R28, U1, U17: any value). FREE VALUE. -/
opaque powerOnColour : Colour

/-- The red of the fault blink (R28, R224); its rate is not in the source (R225). FREE VALUE. -/
opaque faultRed : Colour

/-- The build `State.reset` carries: `DCMD-DIR-LS` with the observed values of R6, as in the source's scenario E6.
DESIGN CHOICE (log entry 1): the spec admits every build. -/
def observedBuild : Build where
  protocol := .direction
  limitStop := true
  powerEncoding := .binary32
  baseAddress := 0x300
  maxDuty := 80
  directionDuty := 25

end Config

end Sys2Proof
end

