-- ==== Sys2Proof/Syntax.lean ====
section
/-! DEFINITION. The instructions of this hardware: the frames of `opcode_table.json`, one constructor for each of its
mnemonics. -/

namespace Sys2Proof

/-- An instruction: the reading of one frame payload (R71 to R75). The seven rows that share DIR_IGNORE and the eight that
share DUTY_IGNORE only cut one opcode range into mask patterns; the constructor holds the opcode byte itself. -/
inductive Instr where
  /-- FORWARD (R124). -/
  | forward
  /-- REVERSE (R125). -/
  | reverse
  /-- STOP (R126). -/
  | stop
  /-- DIR_IGNORE (R127): an unrecognized opcode, `0x03` to `0xFF`, of a DIRECTION build. -/
  | dirIgnore (opcode : Byte)
  /-- SETPOWER (R128), with its 32-bit magnitude word (R76). -/
  | setPower (word : Word32)
  /-- DUTY_IGNORE (R129): an unrecognized opcode, `0x01` to `0xFF`, of a DUTY build. -/
  | dutyIgnore (opcode : Byte)
  /-- STATUS_LIMIT (R73): the outbound StatusEvent frame, with the limit that fired (R81). The core sends it and never
  decodes it. -/
  | statusLimit (limit : Limit)
deriving DecidableEq, Repr

end Sys2Proof
end

