-- ==== Sys2Proof/WellFormed.lean ====
section
/-! DEFINITION. Which instructions and which builds are well formed: the opcode ranges of R74, R75 and the parameter
domains of R6. -/

namespace Sys2Proof

/-- The operand ranges of the opcode map: an unrecognized direction opcode is `0x03` to `0xFF` (R74), an unrecognized duty
opcode `0x01` to `0xFF` (R75). -/
def Instr.wf : Instr → Bool
  | .forward => true
  | .reverse => true
  | .stop => true
  | .dirIgnore opcode => decide (3 ≤ opcode.toNat)
  | .setPower _ => true
  | .dutyIgnore opcode => decide (1 ≤ opcode.toNat)
  | .statusLimit _ => true

/-- The frame format an instruction belongs to: the `format` column of the opcode table. -/
def Instr.format : Instr → Format
  | .forward => .dirCmd
  | .reverse => .dirCmd
  | .stop => .dirCmd
  | .dirIgnore _ => .dirCmd
  | .setPower _ => .dutyCmd
  | .dutyIgnore _ => .dutyCmd
  | .statusLimit _ => .status

/-- A well-formed inbound command of a build with protocol `p` (R74, R75, R82). No STATUS frame is one. -/
def Instr.wfIn (p : Protocol) (i : Instr) : Bool :=
  i.wf && decide (i.format = p.format)

/-- `q` is the value of a non-negative finite binary32 datum: `q = n / 2^149` with at most 24 significant bits and `q`
below `2^128` (R78, the largest exponent 254). -/
def isBinary32 (q : Mag) : Bool :=
  decide (0 ≤ q) && decide (2 ^ 149 % q.den = 0) &&
    (let n := q.num.toNat * (2 ^ 149 / q.den)
     decide (n / 2 ^ 149 < 2 ^ 128) && decide (n % 2 ^ (n.log2 - 23) = 0))

/-- The domain of one duty parameter: a rational from 0 to 100 (R6). -/
def dutyInRange (q : Mag) : Bool := decide (0 ≤ q) && decide (q ≤ 100)

/-- The type `MAX_DUTY` must have under the build's power encoding (R6, D12). -/
def ceilingFits : PowerEncoding → Mag → Bool
  | .binary32, q => isBinary32 q
  | .int32, q => decide (q.den = 1)

/-- The domains of the build parameters (R6). -/
def Build.wf (b : Build) : Bool :=
  decide (b.baseAddress ≤ 0x7F0) && dutyInRange b.maxDuty && dutyInRange b.directionDuty &&
    ceilingFits b.powerEncoding b.maxDuty

end Sys2Proof
end

