-- ==== Sys2Proof/Decode.lean ====
section
/-! DEFINITION. From payload bytes to instructions and back (`30_encoding.md`, R120 to R123): the field helpers, the decoder
of each format, the address check, the encoder, and the reading of an opcode-table word. -/

namespace Sys2Proof

/-- `be32(b0, b1, b2, b3)` (R9): the first byte is the most significant. -/
def be32 (b0 b1 b2 b3 : Byte) : Word32 := b0 ++ b1 ++ b2 ++ b3

/-- The payload as one 64-bit word `P`, `data[0]` in `P[63:56]` (R70). -/
def Payload.word (p : Payload) : BitVec 64 :=
  p.d0 ++ p.d1 ++ p.d2 ++ p.d3 ++ p.d4 ++ p.d5 ++ p.d6 ++ p.d7

/-- The opcode byte `data[0]` (R71, R72, R123). -/
def Payload.opcode (p : Payload) : Byte := p.d0

/-- The magnitude word of `data[1..4]` (R76). -/
def Payload.magWord (p : Payload) : Word32 := be32 p.d1 p.d2 p.d3 p.d4

/-- A payload from the bytes listed, unlisted bytes `0x00` (the notation of R83); a payload has at most 8 (R34). -/
def Payload.ofBytes (bytes : List Byte) : Option Payload :=
  if bytes.length ≤ 8 then
    some ⟨bytes.getD 0 0, bytes.getD 1 0, bytes.getD 2 0, bytes.getD 3 0,
      bytes.getD 4 0, bytes.getD 5 0, bytes.getD 6 0, bytes.getD 7 0⟩
  else none

/-- Why bytes are no instruction of a format. Raised by `decodeAs` and `decodeBytes` only. The core's own inbound
formats raise none but `tooLong`, which no frame can be (R34, R80): the first two speak of the outbound format. -/
inductive DecodeError where
  /-- A payload has at most eight bytes (R34). -/
  | tooLong
  /-- In format STATUS, `data[0]` is not `0x30` (R73). -/
  | notStatusOpcode (opcode : Byte)
  /-- In format STATUS, `data[1]` is neither `0x01` nor `0x00` (R73, R81). -/
  | noSuchLimit (dir : Byte)
deriving DecidableEq, Repr

/-- The opcode map of a DIRECTION build (R74, R124 to R127). -/
def decodeDirection (p : Payload) : Instr :=
  if p.opcode = 0x00 then .forward
  else if p.opcode = 0x01 then .reverse
  else if p.opcode = 0x02 then .stop
  else .dirIgnore p.opcode

/-- The opcode map of a DUTY build (R75, R128, R129). -/
def decodeDuty (p : Payload) : Instr :=
  if p.opcode = 0x00 then .setPower p.magWord
  else .dutyIgnore p.opcode

/-- The `dir` byte of a StatusEvent (R73, R81). -/
def limitCode : Limit → Byte
  | .upper => 0x01
  | .lower => 0x00

/-- The outbound format as an observer on the bus reads it (R73, R81). The core itself never decodes one: opcode `0x30`
is an unrecognized opcode to it (R127). -/
def decodeStatus (p : Payload) : Except DecodeError Instr :=
  if p.opcode = Config.statusOpcode then
    if p.d1 = limitCode .upper then .ok (.statusLimit .upper)
    else if p.d1 = limitCode .lower then .ok (.statusLimit .lower)
    else .error (.noSuchLimit p.d1)
  else .error (.notStatusOpcode p.opcode)

/-- The command decoder's opcode dispatch under the build's protocol (R123, R82): total, nothing is illegal (R80). -/
def decodeInbound (protocol : Protocol) (p : Payload) : Instr :=
  match protocol with
  | .direction => decodeDirection p
  | .duty => decodeDuty p

/-- The reading of a payload in a given format. -/
def decodeAs (format : Format) (p : Payload) : Except DecodeError Instr :=
  match format with
  | .dirCmd => .ok (decodeDirection p)
  | .dutyCmd => .ok (decodeDuty p)
  | .status => decodeStatus p

/-- The reading of any list of bytes in a given format. -/
def decodeBytes (format : Format) (bytes : List Byte) : Except DecodeError Instr :=
  match Payload.ofBytes bytes with
  | some p => decodeAs format p
  | none => .error .tooLong

/-- Why a cycle runs no instruction. -/
inductive Rejection where
  /-- The node is halted: no frame is received and none is decoded (R225, R229 item 1). Raised by
  `Sys2Proof.Machine.State.fetch` only. -/
  | halted
  /-- The receive check returned `None` (R201). -/
  | noFrame
  /-- The identifier is not the node's (R122). -/
  | unaddressed
deriving DecidableEq, Repr

/-- The decoder's front end (R120, R122, R123): the whole identifier is compared before any data byte is read; `dlc` is
not read (R121). -/
def receive (protocol : Protocol) (addr : Ident) (rx : Option Frame) : Except Rejection Instr :=
  match rx with
  | none => .error .noFrame
  | some f => if f.id = addr then .ok (decodeInbound protocol f.data) else .error .unaddressed

/-- The decoder's verdict, an internal signal of the core (R130). -/
inductive Verdict where
  | accepted
  | noFrame
  | unaddressed
  | unrecognizedOpcode
deriving DecidableEq, Repr

/-- The verdict codes (R130, D25). -/
def Verdict.code : Verdict → Nat
  | .accepted => 0
  | .noFrame => 1
  | .unaddressed => 2
  | .unrecognizedOpcode => 3

/-- The verdict on an instruction that passed the address check (R120, R84). -/
def Instr.verdict : Instr → Verdict
  | .forward => .accepted
  | .reverse => .accepted
  | .stop => .accepted
  | .dirIgnore _ => .unrecognizedOpcode
  | .setPower _ => .accepted
  | .dutyIgnore _ => .unrecognizedOpcode
  | .statusLimit _ => .unrecognizedOpcode

/-- The verdict of a cycle (R120, R130); a halted cycle evaluates none (R225). -/
def verdictOf : Except Rejection Instr → Option Verdict
  | .error .halted => none
  | .error .noFrame => some .noFrame
  | .error .unaddressed => some .unaddressed
  | .ok i => some i.verdict

/-! ### The encoder -/

/-- `data[0]` of an instruction's frame (R73 to R75). -/
def Instr.opcode : Instr → Byte
  | .forward => 0x00
  | .reverse => 0x01
  | .stop => 0x02
  | .dirIgnore opcode => opcode
  | .setPower _ => 0x00
  | .dutyIgnore opcode => opcode
  | .statusLimit _ => Config.statusOpcode

/-- The payload of an instruction; bytes its format does not read are `0x00` (R71 to R73, R83). -/
def encode (i : Instr) : Payload :=
  match i with
  | .forward => ⟨i.opcode, 0, 0, 0, 0, 0, 0, 0⟩
  | .reverse => ⟨i.opcode, 0, 0, 0, 0, 0, 0, 0⟩
  | .stop => ⟨i.opcode, 0, 0, 0, 0, 0, 0, 0⟩
  | .dirIgnore _ => ⟨i.opcode, 0, 0, 0, 0, 0, 0, 0⟩
  | .setPower w =>
    ⟨i.opcode, w.extractLsb' 24 8, w.extractLsb' 16 8, w.extractLsb' 8 8, w.extractLsb' 0 8, 0, 0, 0⟩
  | .dutyIgnore _ => ⟨i.opcode, 0, 0, 0, 0, 0, 0, 0⟩
  | .statusLimit limit => ⟨i.opcode, limitCode limit, 0, 0, 0, 0, 0, 0⟩

/-- How many bytes R83 lists for an instruction's frame, its `dlc`. -/
def Instr.length : Instr → Fin 9
  | .forward => 1
  | .reverse => 1
  | .stop => 1
  | .dirIgnore _ => 1
  | .setPower _ => 5
  | .dutyIgnore _ => 1
  | .statusLimit _ => 2

/-- The frame that carries an instruction to the identifier `id` (R83). -/
def encodeFrame (id : Ident) (i : Instr) : Frame := ⟨id, i.length, encode i⟩

/-- `status(d)`, the one frame the core sends (R73, R161). -/
def statusFrame (limit : Limit) : Frame := encodeFrame Config.statusId (.statusLimit limit)

/-! ### The words of the opcode table -/

/-- The `k` lowest bytes of `w`, the least significant first. -/
def bytesOfNat : Nat → Nat → List Byte
  | 0, _ => []
  | k + 1, w => BitVec.ofNat 8 w :: bytesOfNat k (w / 256)

/-- The payload of a table word: bits 7..0 are `data[0]`, bits 15..8 `data[1]`, and so on; bytes above `nbits` are 0. -/
def tablePayload (nbits w : Nat) : Option Payload := Payload.ofBytes (bytesOfNat ((nbits + 7) / 8) w)

/-- The instruction the decoder of the build that `State.reset` carries reads from a table word. The table lists the rows
of both protocols over the same opcode byte, and one build decodes by one of them (R82; log entry 8). -/
def decodeTableWord (nbits w : Nat) : Option Instr :=
  (tablePayload nbits w).map (decodeInbound Config.observedBuild.protocol)

end Sys2Proof
end

