-- ==== Sys2Proof/Machine/State.lean ====
section
/-! DEFINITION. The state of the node: the registers of R22, the ports of R33 and R35, the build it is an instance of, and
its value after reset (R36). -/

namespace Sys2Proof.Machine

/-- The MotorState direction (R25). -/
inductive Mode where
  | stopped
  | forward
  | reverse
deriving DecidableEq, Repr

/-- What the core last drove to the indicator (R28). -/
inductive Indicator where
  /-- Palette colour `k`. -/
  | palette (k : Fin 4)
  /-- Not driven since power-on. -/
  | unset
  /-- The red fault blink (R224). -/
  | faultBlink
deriving DecidableEq, Repr

/-- Why the node is halted (R27, R220). -/
inductive FaultCause where
  | none
  | busInitFailure
deriving DecidableEq, Repr

/-- What the environment gives one cycle: the result of the receive check and the two pin levels (R200, R207). -/
structure CycleInput where
  rx     : Option Frame
  upperN : Level
  lowerN : Level
deriving DecidableEq, Repr

/-- The node's state. There is no program counter, no memory, no general register and no flag (R20, R21, R30, R50). -/
structure State where
  /-- The build parameters, constant for the life of the node (R6, R7). -/
  build       : Build
  /-- The resolved node address (R23). -/
  nodeAddress : Ident
  /-- The DIP selector sampled at boot (R24). -/
  selector    : BitVec 4
  /-- What the core last drove to the indicator (R28). -/
  indicator   : Indicator
  /-- The MotorState direction (R25). -/
  mode        : Mode
  /-- The MotorState magnitude (R26). -/
  mag         : Mag
  /-- The duty last driven to leg A (R29). -/
  dutyA       : Mag
  /-- The duty last driven to leg B (R29). -/
  dutyB       : Mag
  /-- Set after a bus-init failure, for ever (R27). -/
  halted      : Bool
  /-- Why `halted` is set (R27). -/
  faultCause  : FaultCause
  /-- Output port `tx`: the outbound frame of the last cycle (R35). -/
  tx          : Option Frame
  /-- Input port `dip_n[3:0]`, sampled at reset only (R33). -/
  dipN        : BitVec 4
  /-- Input port `bus_init_ok`, sampled at reset only (R33). -/
  busInitOk   : Bool
  /-- Input port `rx`: what the next cycle's receive check returns (R33, R201). -/
  rx          : Option Frame
  /-- Input port `upper_n`: the level the next cycle samples (R33). -/
  upperN      : Level
  /-- Input port `lower_n`: the level the next cycle samples (R33). -/
  lowerN      : Level
  /-- THE MODEL'S OWN: what the environment puts on `rx`, `upper_n` and `lower_n` in the cycles after the next one, first
  first (R207; log entry 3). -/
  script      : List CycleInput
deriving DecidableEq, Repr

/-- The reasons a step may stop with a fault. There is none: `step` is total, the one fault of this hardware is the
halted state, which is a state (R204, R224). -/
inductive Fault where
deriving DecidableEq, Repr

/-- The reasons a step may be refused. The hardware refuses no input (R204). -/
inductive Refusal where
  /-- An instruction without a meaning in the model. Raised by no arm: every instruction has its meaning. Safe. -/
  | notModelled (mnemonic : String)
deriving DecidableEq, Repr

/-- The machine right after reset: R36 for the build `Config.observedBuild`, with all four DIP switches open
(`dip_n = 0b1111`, the source's example R106) and the bus controller initialised. The input ports are the environment's:
no frame, both limit switches open, nothing scripted (log entries 1 and 4). -/
def State.reset : State where
  build := Config.observedBuild
  nodeAddress := 0x300
  selector := 0
  indicator := .palette 0
  mode := .stopped
  mag := 25
  dutyA := 0
  dutyB := 0
  halted := false
  faultCause := .none
  tx := none
  dipN := 0b1111
  busInitOk := true
  rx := none
  upperN := .high
  lowerN := .high
  script := []

end Sys2Proof.Machine
end

