-- ==== Sys2Proof/Machine/Flags.lean ====
section
/-! DEFINITION. The Boolean conditions of the node (R30). The hardware has no status flag; the two limit conditions are
computed anew in every cycle from the pins and are not stored. -/

namespace Sys2Proof.Machine

/-- The condition behind an active-low pin: true when the pin reads `0` (R12). -/
def activeLow (pin : Level) : Bool := decide (pin = .low)

/-- `atUpper` of R200: the raw sample of `upper_n`, read only in a `LIMIT_STOP = ON` build (R30, R202). -/
def atUpperLimit (s : State) : Bool := s.build.limitStop && activeLow s.upperN

/-- `atLower` of R200 (R30, R202). -/
def atLowerLimit (s : State) : Bool := s.build.limitStop && activeLow s.lowerN

end Sys2Proof.Machine
end

