-- ==== Sys2Proof/Machine/Operands.lean ====
section
/-! DEFINITION. The operand of a command: the binary32 datum and the two's-complement reading of a SetPower word (R77, R78),
the typed command (R120), and the decoder's contract as R120 writes it. -/

namespace Sys2Proof.Machine

/-- A binary32 datum (R78). `+0` and `−0` are `finite false 0` and `finite true 0`. -/
inductive F32 where
  /-- Normal, subnormal or zero: the sign bit and the exact absolute value. -/
  | finite (negative : Bool) (absValue : Mag)
  /-- `+∞` or `−∞`. -/
  | infinite (negative : Bool)
  | nan
deriving DecidableEq, Repr

/-- The sign bit `s = mag_word[31]` (R78). -/
def signBit (w : Word32) : Bool := w.getLsbD 31

/-- The exponent field `e = mag_word[30:23]` (R78). -/
def exponentField (w : Word32) : Nat := (w.extractLsb' 23 8).toNat

/-- The fraction field `f = mag_word[22:0]` (R78). -/
def fractionField (w : Word32) : Nat := (w.extractLsb' 0 23).toNat

/-- `f32(w)` (R78). With `e ≥ 1` the absolute value `2^(e−127) × (1 + f/2^23)` is `(2^23 + f) · 2^(e−1) / 2^149`; with
`e = 0` the value `2^(−126) × (f/2^23)` is `f / 2^149`. Both are exact. -/
def F32.ofBits (w : Word32) : F32 :=
  if exponentField w = 255 then
    if fractionField w = 0 then .infinite (signBit w) else .nan
  else if exponentField w = 0 then
    .finite (signBit w) (mkRat (fractionField w) (2 ^ 149))
  else
    .finite (signBit w) (mkRat ((2 ^ 23 + fractionField w) * 2 ^ (exponentField w - 1) : Nat) (2 ^ 149))

/-- `v > 0` (R78: exact; no NaN and no zero of either sign is). -/
def F32.isPositive : F32 → Bool
  | .finite negative a => !negative && decide (a ≠ 0)
  | .infinite negative => !negative
  | .nan => false

/-- `v < 0` (R78). -/
def F32.isNegative : F32 → Bool
  | .finite negative a => negative && decide (a ≠ 0)
  | .infinite negative => negative
  | .nan => false

/-- `min(abs(v), hi)` for a finite ceiling `hi ≥ 0` (R156, R10): `abs` clears the sign, and `±∞` gives the ceiling. A NaN
has no absolute value; R156 does not come here with one, and `0` is what it writes for a NaN. -/
def F32.absMin : F32 → Mag → Mag
  | .finite _ a, hi => minMag a hi
  | .infinite _, hi => hi
  | .nan, _ => 0

/-- The operand of SetPower under the build's power encoding (R120). -/
inductive Power where
  | binary32 (v : F32)
  | int32 (v : Int)
deriving DecidableEq, Repr

/-- `power(f)` of R120 and R128: the magnitude word read as a binary32 datum (R78) or in two's complement (R77). -/
def powerOf (encoding : PowerEncoding) (w : Word32) : Power :=
  match encoding with
  | .binary32 => .binary32 (F32.ofBits w)
  | .int32 => .int32 w.toInt

/-- The binary32 word of a sign and an exact absolute value that `isBinary32` accepts (R78 read backwards): the fraction
field alone below `2^(−126)`, else an exponent field of one more than the power of two taken out. -/
def binary32Word (negative : Bool) (q : Mag) : Word32 :=
  let n := q.num.toNat * (2 ^ 149 / q.den)
  let k := n.log2 - 23
  BitVec.ofNat 32
    ((if negative then 2 ^ 31 else 0) + if n < 2 ^ 23 then n else (k + 1) * 2 ^ 23 + (n / 2 ^ k - 2 ^ 23))

/-- The 32-bit encoding of `x` in the notation `POWER id, x` (R83). -/
def powerWord (encoding : PowerEncoding) (x : Mag) : Word32 :=
  match encoding with
  | .binary32 => binary32Word (decide (x < 0)) (if x < 0 then -x else x)
  | .int32 => BitVec.ofInt 32 x.num

/-- `POWER id, x` (R83); `FWD id`, `REV id` and `STOP id` are `encodeFrame id .forward` and so on. -/
def powerFrame (encoding : PowerEncoding) (id : Ident) (x : Mag) : Frame :=
  encodeFrame id (.setPower (powerWord encoding x))

/-- The operand of SetDirection (R120). -/
inductive Direction where
  | forward
  | reverse
  | stop
deriving DecidableEq, Repr

/-- The typed command the decoder produces (R120). -/
inductive Command where
  | setDirection (d : Direction)
  | setPower (v : Power)
deriving DecidableEq, Repr

/-- The decoder's contract as R120 writes it: a total function of the received frame and the node address, under the
build. `step` takes the same frame through `receive` and `exec`; the statement `StepIsTheNodeCycle` says they agree. -/
def decode (b : Build) (rx : Option Frame) (addr : Ident) : Verdict × Option Command :=
  match rx with
  | none => (.noFrame, none)
  | some f =>
    if f.id ≠ addr then (.unaddressed, none)
    else
      match b.protocol with
      | .direction =>
        if f.data.d0 = 0x00 then (.accepted, some (.setDirection .forward))
        else if f.data.d0 = 0x01 then (.accepted, some (.setDirection .reverse))
        else if f.data.d0 = 0x02 then (.accepted, some (.setDirection .stop))
        else (.unrecognizedOpcode, none)
      | .duty =>
        if f.data.d0 = 0x00 then
          (.accepted, some (.setPower (powerOf b.powerEncoding (be32 f.data.d1 f.data.d2 f.data.d3 f.data.d4))))
        else (.unrecognizedOpcode, none)

end Sys2Proof.Machine
end

