-- ==== Sys2Proof/Machine/Ops.lean ====
section
/-! DEFINITION. The named operations every instruction is made of: the two arbiter phases, the duty mapper, the status
emission, the halted cycle, the environment's move to the next cycle, the reset sequence, and fault entry. -/

namespace Sys2Proof.Machine

/-- The arbiter's state `(S.mode, S.mag)` (R150). -/
structure Motor where
  mode : Mode
  mag  : Mag
deriving DecidableEq, Repr

/-- The arbiter's state as the registers hold it (R150). -/
def State.motor (s : State) : Motor := ⟨s.mode, s.mag⟩

/-- `S.mode <- m; S.mag <- g` (R151). -/
def State.setMotor (s : State) (m : Motor) : State := { s with mode := m.mode, mag := m.mag }

/-! ### motion_arbiter_fsm -/

/-- APPLY_POWER_F32 (R156). -/
def applyPowerF32 (maxDuty : Mag) (v : F32) : Motor :=
  if v = .nan then ⟨.stopped, 0⟩
  else if v.isPositive then ⟨.forward, v.absMin maxDuty⟩
  else if v.isNegative then ⟨.reverse, v.absMin maxDuty⟩
  else ⟨.stopped, 0⟩

/-- APPLY_POWER_I32 (R157). The negation is exact: the operand is an integer, not a word (D11). -/
def applyPowerI32 (maxDuty : Mag) (v : Int) : Motor :=
  if v > 0 then ⟨.forward, minMag (v : Mag) maxDuty⟩
  else if v < 0 then ⟨.reverse, minMag ((-v : Int) : Mag) maxDuty⟩
  else ⟨.stopped, 0⟩

/-- The command phase (R152 to R157). -/
def commandPhase (maxDuty : Mag) (m : Motor) (cmd : Option Command) : Motor :=
  match cmd with
  | none => m
  | some (.setDirection .forward) => ⟨.forward, m.mag⟩
  | some (.setDirection .reverse) => ⟨.reverse, m.mag⟩
  | some (.setDirection .stop) => ⟨.stopped, m.mag⟩
  | some (.setPower (.binary32 v)) => applyPowerF32 maxDuty v
  | some (.setPower (.int32 v)) => applyPowerI32 maxDuty v

/-- The override phase: LIMIT_STOP_UPPER (R158), LIMIT_STOP_LOWER (R159), PASS (R160). The magnitude is kept (D9). -/
def overridePhase (m : Motor) (atUpper atLower : Bool) : Motor × Option Limit :=
  match m.mode with
  | .forward => if atUpper then (⟨.stopped, m.mag⟩, some .upper) else (m, none)
  | .reverse => if atLower then (⟨.stopped, m.mag⟩, some .lower) else (m, none)
  | .stopped => (m, none)

/-- `arbitrate` (R151): the override runs on the command phase's result, so it wins over the command. -/
def arbitrate (maxDuty : Mag) (m : Motor) (cmd : Option Command) (atUpper atLower : Bool) : Motor × Option Limit :=
  overridePhase (commandPhase maxDuty m cmd) atUpper atLower

/-! ### pwm_duty_mapper -/

/-- The two leg duties of a mode and magnitude, leg A first (R180 to R183). -/
def legDuties (m : Motor) : Mag × Mag :=
  match m.mode with
  | .forward => (m.mag, 0)
  | .reverse => (0, m.mag)
  | .stopped => (0, 0)

/-- DRIVE (R180): both leg registers are written together, from the final mode and magnitude of the cycle. -/
def State.drive (s : State) : State :=
  { s with dutyA := (legDuties s.motor).1, dutyB := (legDuties s.motor).2 }

/-! ### Status emission -/

/-- The `tx` output of a cycle (R161): the STATUS frame of the limit that fired, or none. -/
def State.emit (s : State) (ev : Option Limit) : State := { s with tx := ev.map statusFrame }

/-! ### The cycle -/

/-- The halted cycle (R225): no register changes, nothing is sampled, no frame is sent. -/
def State.haltedCycle (s : State) : State := s.emit none

/-- One cycle after its decode step (R200): the halted check, then arbitrate, drive, emit. -/
def State.cycle (s : State) (cmd : Option Command) : State :=
  if s.halted then s.haltedCycle
  else
    let r := arbitrate s.build.maxDuty s.motor cmd (atUpperLimit s) (atLowerLimit s)
    ((s.setMotor r.1).drive).emit r.2

/-- `Tx(status(d))` on its own (R161, R205). A halted node sends nothing (R225). -/
def State.sendStatus (s : State) (limit : Limit) : State :=
  if s.halted then s.haltedCycle else s.emit (some limit)

/-! ### The environment between two cycles -/

/-- The environment puts the next cycle's inputs on the ports (R207). -/
def State.present (s : State) (i : CycleInput) : State :=
  { s with rx := i.rx, upperN := i.upperN, lowerN := i.lowerN }

/-- What happens on the input ports when a cycle ends: the frame is consumed (R58) and the script's next entry is
presented. When nothing is scripted no frame is there and the pins stay as they are (log entry 3). -/
def State.nextInputs (s : State) : State :=
  match s.script with
  | [] => { s with rx := none }
  | i :: rest => { s.present i with script := rest }

/-! ### address_selector, reset and fault entry -/

/-- COMPOSE_SELECTOR (R101): the weighted sum of the inverted pin levels, which is the inversion of the pin vector. -/
def composeSelector (dipN : BitVec 4) : BitVec 4 := ~~~dipN

/-- RESOLVE_ADDRESS (R102): an integer sum, into 11 bits. -/
def resolveAddress (baseAddress : Nat) (selector : BitVec 4) : Ident := BitVec.ofNat 11 (baseAddress + selector.toNat)

/-- SET_INDICATOR (R104): only selectors 0 to 3 have a colour. -/
def State.setIndicator (s : State) : State :=
  if h : s.selector.toNat < 4 then { s with indicator := .palette ⟨s.selector.toNat, h⟩ } else s

/-- TAKING THE ONE EXCEPTION: fault entry (R224). Nothing else is saved (R227). -/
def State.raiseFault (s : State) (cause : FaultCause) : State :=
  { s with halted := true, faultCause := cause, indicator := .faultBlink, dutyA := 0, dutyB := 0 }

/-- The magnitude reset leaves (R36, R250 step 4). -/
def resetMag (b : Build) : Mag :=
  match b.protocol with
  | .direction => b.directionDuty
  | .duty => 0

/-- R250 steps 1 and 2: SAMPLE_DIP (R100), COMPOSE_SELECTOR (R101) and RESOLVE_ADDRESS (R102). -/
def State.resolve (s : State) : State :=
  { s with
    selector := composeSelector s.dipN
    nodeAddress := resolveAddress s.build.baseAddress (composeSelector s.dipN) }

/-- R250 step 4. -/
def State.clearMotor (s : State) : State :=
  { s with
    mode := .stopped, mag := resetMag s.build, dutyA := 0, dutyB := 0, tx := none
    halted := false, faultCause := .none }

/-- Power-on, the only reset (R250, R251), and the only way out of the halted state (R226). The build and the input ports
are not the core's to change. It is a move of the environment, not of `step` (R206, R207). -/
def State.powerCycle (s : State) : State :=
  let t := ({ s.resolve with indicator := .unset }.setIndicator).clearMotor
  if s.busInitOk then t else t.raiseFault .busInitFailure

/-- The colour an indicator register stands for: a palette colour, the colour before the core ever drove it, or the red
of the blink (R28, R104, R224). -/
def Indicator.shown : Indicator → Colour
  | .palette k => Config.palette k
  | .unset => Config.powerOnColour
  | .faultBlink => Config.faultRed

/-- The two-bit mode encoding (R25). -/
def Mode.code : Mode → BitVec 2
  | .stopped => 0b00
  | .forward => 0b01
  | .reverse => 0b10

/-- The mode a two-bit pattern stands for. `0b11` stands for none: it is never written (R25), and `State` cannot hold it. -/
def Mode.ofCode (c : BitVec 2) : Option Mode :=
  if c = 0b00 then some .stopped
  else if c = 0b01 then some .forward
  else if c = 0b10 then some .reverse
  else none

/-- The fault codes (R220, R130: an enumeration apart from the verdicts). -/
def FaultCause.code : FaultCause → Option Nat
  | .none => Option.none
  | .busInitFailure => some 1

end Sys2Proof.Machine
end

