-- ==== Sys2Proof/Machine/Cycle.lean ====
section
/-! DEFINITION. What `step` does around an instruction: the receive check, the cycle without an instruction, the end of a
cycle, and the placing of a table word on the bus. -/

namespace Sys2Proof.Machine

/-- The cycle's receive check and decode (R200 step 2, R201). A halted node receives nothing (R225, R229 item 1). -/
def State.fetch (s : State) : Except Rejection Instr :=
  if s.halted then .error .halted else receive s.build.protocol s.nodeAddress s.rx

/-- A cycle that runs no instruction: no frame, an unaddressed frame, or a halted node (R152, R203, R225). -/
def idleCycle (s : State) : Host.Outcome State Fault Refusal := .next (s.cycle none)

/-- The end of a cycle: its result with the input ports moved on to the next cycle (R58, R207). -/
def endCycle (o : Host.Outcome State Fault Refusal) : Host.Outcome State Fault Refusal :=
  match o with
  | .next t => .next t.nextInputs
  | .fault r => .fault r
  | .refused r => .refused r

/-- A frame with the payload of a table word, addressed to this node; `dlc` is the number of bytes given, at most 8. -/
def State.fetchFrame (s : State) (nbits w : Nat) : Option Frame :=
  (tablePayload nbits w).map fun p => ⟨s.nodeAddress, Fin.ofNat 9 (min 8 ((nbits + 7) / 8)), p⟩

end Sys2Proof.Machine
end

