-- ==== Sys2Proof/Machine/Direction.lean ====
section
/-! DEFINITION. The direction-protocol commands (format DIR_CMD, R124 to R127). -/

namespace Sys2Proof.Machine

/-- FORWARD (R124, R153). -/
def execForward (s : State) : Host.Outcome State Fault Refusal :=
  .next (s.cycle (some (.setDirection .forward)))

/-- REVERSE (R125, R154). -/
def execReverse (s : State) : Host.Outcome State Fault Refusal :=
  .next (s.cycle (some (.setDirection .reverse)))

/-- STOP (R126, R155). -/
def execStop (s : State) : Host.Outcome State Fault Refusal :=
  .next (s.cycle (some (.setDirection .stop)))

/-- DIR_IGNORE (R127, R222): the frame is dropped whatever its opcode, and the cycle runs without a command (R203). -/
def execDirIgnore (_opcode : Byte) (s : State) : Host.Outcome State Fault Refusal :=
  .next (s.cycle none)

end Sys2Proof.Machine
end

