-- ==== Sys2Proof/Machine/Duty.lean ====
section
/-! DEFINITION. The duty-protocol commands (format DUTY_CMD, R128, R129). -/

namespace Sys2Proof.Machine

/-- SETPOWER (R128, R156, R157). -/
def execSetPower (word : Word32) (s : State) : Host.Outcome State Fault Refusal :=
  .next (s.cycle (some (.setPower (powerOf s.build.powerEncoding word))))

/-- DUTY_IGNORE (R129, R222): the frame is dropped whatever its opcode, and the cycle runs without a command (R203). -/
def execDutyIgnore (_opcode : Byte) (s : State) : Host.Outcome State Fault Refusal :=
  .next (s.cycle none)

end Sys2Proof.Machine
end

