-- ==== Sys2Proof/Machine/Status.lean ====
section
/-! DEFINITION. The outbound frame (format STATUS, R73). -/

namespace Sys2Proof.Machine

/-- STATUS_LIMIT (R73, R161, R205): the core puts the StatusEvent on `tx`. It is the core's own act, the last of a cycle
whose override fired; no inbound frame decodes to it (R127; log entry 7). -/
def execStatusLimit (limit : Limit) (s : State) : Host.Outcome State Fault Refusal :=
  .next (s.sendStatus limit)

end Sys2Proof.Machine
end

