-- ==== Sys2Proof/Machine/Dispatch.lean ====
section
/-! DEFINITION. One arm per instruction, each one call of its meaning. -/

namespace Sys2Proof.Machine

def exec (i : Instr) (s : State) : Host.Outcome State Fault Refusal :=
  match i with
  | .forward => Sys2Proof.Machine.execForward s
  | .reverse => Sys2Proof.Machine.execReverse s
  | .stop => Sys2Proof.Machine.execStop s
  | .dirIgnore opcode => Sys2Proof.Machine.execDirIgnore opcode s
  | .setPower word => Sys2Proof.Machine.execSetPower word s
  | .dutyIgnore opcode => Sys2Proof.Machine.execDutyIgnore opcode s
  | .statusLimit limit => Sys2Proof.Machine.execStatusLimit limit s

end Sys2Proof.Machine
end

