-- ==== Sys2Proof/Machine/Step.lean ====
section
/-! DEFINITION. One node cycle (R200) as one step, and the placing of an instruction where the next step receives it. -/

namespace Sys2Proof.Machine

/-- One node cycle (R200): receive and decode, run the instruction or an idle cycle, end the cycle. -/
def step (s : State) : Host.Outcome State Fault Refusal :=
  match s.fetch with
  | .ok i => endCycle (exec i s)
  | .error _ => endCycle (idleCycle s)

/-- `s` with the instruction of a table word on the `rx` port, in a frame addressed to this node. -/
def State.withFetchWord (s : State) (nbits w : Nat) : State := { s with rx := s.fetchFrame nbits w }

end Sys2Proof.Machine
end

