-- ==== Sys2Proof/Safety.lean ====
section
/-! DEFINITION. The terms statements are made in: what the outside sees of a run (R206), the invariant of the node, the
final state of a cycle as the rules give it, and the cycles without a command. -/

namespace Sys2Proof.Machine

/-- What the outside sees of one cycle (R206). -/
structure Observation where
  dutyA     : Mag
  dutyB     : Mag
  tx        : Option Frame
  indicator : Indicator
deriving DecidableEq, Repr

/-- The observation of the cycle that ended in `s` (R206). -/
def State.observe (s : State) : Observation := ⟨s.dutyA, s.dutyB, s.tx, s.indicator⟩

/-- The observations of the next `k` cycles (R206). The inputs of those cycles are the ports and the script of `s`, so a
claim for every `s` is a claim for every input sequence. -/
def trace : Nat → State → List Observation
  | 0, _ => []
  | k + 1, s =>
    match step s with
    | .next t => t.observe :: trace k t
    | .fault _ => []
    | .refused _ => []

/-- Whether the limit in the direction of a mode is active in this cycle, in a build that reads it (R158, R159, R162). -/
def State.limitFires (s : State) (m : Mode) : Option Limit :=
  match m with
  | .forward => if s.build.limitStop = true ∧ s.upperN = .low then some .upper else none
  | .reverse => if s.build.limitStop = true ∧ s.lowerN = .low then some .lower else none
  | .stopped => none

/-- The final state of a cycle whose command phase gave `m1` and `g1`, as R158 to R161 and R181 to R183 give it: nothing
but `mode`, `mag`, the two legs and `tx` changes. -/
def State.finish (s : State) (m1 : Mode) (g1 : Mag) : State :=
  match s.limitFires m1 with
  | some .upper =>
    { s with mode := .stopped, mag := g1, dutyA := 0, dutyB := 0, tx := some ⟨0x000, 2, ⟨0x30, 0x01, 0, 0, 0, 0, 0, 0⟩⟩ }
  | some .lower =>
    { s with mode := .stopped, mag := g1, dutyA := 0, dutyB := 0, tx := some ⟨0x000, 2, ⟨0x30, 0x00, 0, 0, 0, 0, 0, 0⟩⟩ }
  | none =>
    match m1 with
    | .forward => { s with mode := .forward, mag := g1, dutyA := g1, dutyB := 0, tx := none }
    | .reverse => { s with mode := .reverse, mag := g1, dutyA := 0, dutyB := g1, tx := none }
    | .stopped => { s with mode := .stopped, mag := g1, dutyA := 0, dutyB := 0, tx := none }

/-- The indicator a node shows after reset (R36, R104, R224). -/
def indicatorAfterReset (halted : Bool) (selector : BitVec 4) : Indicator :=
  if halted then .faultBlink
  else if h : selector.toNat < 4 then .palette ⟨selector.toNat, h⟩ else .unset

/-- The invariant of the node: what reset establishes and every cycle keeps. -/
structure State.Inv (s : State) : Prop where
  /-- The build parameters are in their domains (R6). -/
  build_wf : s.build.wf = true
  /-- R23. -/
  address : s.nodeAddress.toNat = s.build.baseAddress + s.selector.toNat
  /-- R27. -/
  cause : s.faultCause = if s.halted then .busInitFailure else .none
  /-- R28, R36. -/
  indicator : s.indicator = indicatorAfterReset s.halted s.selector
  /-- R180 to R183: the legs are driven from the mode and magnitude of the last cycle. -/
  legs : (s.dutyA, s.dutyB) = legDuties s.motor
  /-- R164. -/
  direction_mag : s.build.protocol = .direction → s.mag = s.build.directionDuty
  /-- R26, R156, R157, R166. -/
  duty_mag : s.build.protocol = .duty → 0 ≤ s.mag ∧ s.mag ≤ s.build.maxDuty
  /-- R26: a binary32 value, or an integer. -/
  duty_mag_type : s.build.protocol = .duty → ceilingFits s.build.powerEncoding s.mag = true
  /-- R161: a frame goes out only from an override, which leaves the mode Stopped. -/
  sent : ∀ f, s.tx = some f → s.build.limitStop = true ∧ s.mode = .stopped ∧ ∃ limit, f = statusFrame limit
  /-- R224, R225: a halted node never moved and never sends. -/
  halted_quiet : s.halted = true → s.mode = .stopped ∧ s.tx = none

/-- The command of the next cycle, if a node that is not halted receives one (R120). -/
def State.command (s : State) : Option Command := (decode s.build s.rx s.nodeAddress).2

/-- In none of the next `k` cycles does the decoder yield a command: no frame, an unaddressed frame or an unrecognized
opcode in each (R203). -/
def NoCommandFor : Nat → State → Prop
  | 0, _ => True
  | k + 1, s => s.command = none ∧ ∀ t, step s = .next t → NoCommandFor k t

/-- Two states with the same registers of R22 and the same build; the ports may differ. -/
def State.sameRegisters (s t : State) : Prop :=
  t.build = s.build ∧ t.nodeAddress = s.nodeAddress ∧ t.selector = s.selector ∧ t.indicator = s.indicator ∧
  t.mode = s.mode ∧ t.mag = s.mag ∧ t.dutyA = s.dutyA ∧ t.dutyB = s.dutyB ∧
  t.halted = s.halted ∧ t.faultCause = s.faultCause

end Sys2Proof.Machine
end

