-- ==== Sys2Proof/Certificates/Slice0/Obligations.lean ====
section
/-! DEFINITION. The statements for the provers. Each says in its docstring which rule of the spec it formalises. -/

open Sys2Proof Sys2Proof.Machine

/-! ### Encoding -/

/-- Decode and encode agree in all three frame formats (R71 to R75, R81): the reading of an encoded well-formed
instruction is that instruction, with every operand at every value. -/
def Obligations.DecodeEncodeAgree : Prop :=
  ∀ i : Instr, i.wf = true → decodeAs i.format (encode i) = .ok i

/-- The other direction: the decoder answers a well-formed instruction of its protocol for every payload, and encoding it
gives back every byte the decoder read (R74, R75, R80). -/
def Obligations.EncodeKeepsEveryReadByte : Prop :=
  ∀ (pr : Protocol) (p : Payload),
    (decodeInbound pr p).wfIn pr = true ∧ (encode (decodeInbound pr p)).d0 = p.d0 ∧
    (pr = .duty → p.d0 = 0x00 →
      (encode (decodeInbound pr p)).d1 = p.d1 ∧ (encode (decodeInbound pr p)).d2 = p.d2 ∧
      (encode (decodeInbound pr p)).d3 = p.d3 ∧ (encode (decodeInbound pr p)).d4 = p.d4)

/-- A few frames written out from the spec's tables decode as the tables say (rows X2, X4, X7, X14, X15 of
`95_test_vectors.md`, and the STATUS frame of R73). -/
def Obligations.WrittenOutFramesDecode : Prop :=
  decodeInbound .direction ⟨0x00, 0, 0, 0, 0, 0, 0, 0⟩ = .forward ∧
  decodeInbound .direction ⟨0x02, 0, 0, 0, 0, 0, 0, 0⟩ = .stop ∧
  decodeInbound .direction ⟨0xFF, 0, 0, 0, 0, 0, 0, 0⟩ = .dirIgnore 0xFF ∧
  decodeInbound .duty ⟨0x00, 0x42, 0x48, 0x00, 0x00, 0, 0, 0⟩ = .setPower 0x42480000 ∧
  decodeInbound .duty ⟨0x01, 0x42, 0x48, 0x00, 0x00, 0, 0, 0⟩ = .dutyIgnore 0x01 ∧
  decodeAs .status ⟨0x30, 0x01, 0, 0, 0, 0, 0, 0⟩ = .ok (.statusLimit .upper)

/-- The opcode map of a DIRECTION build (R74), as instruction and as the decoder's command. -/
def Obligations.DirectionOpcodeMap : Prop :=
  ∀ (b : Build) (f : Frame), b.protocol = .direction →
    (f.data.d0 = 0x00 → decodeInbound .direction f.data = .forward ∧
      decode b (some f) f.id = (.accepted, some (.setDirection .forward))) ∧
    (f.data.d0 = 0x01 → decodeInbound .direction f.data = .reverse ∧
      decode b (some f) f.id = (.accepted, some (.setDirection .reverse))) ∧
    (f.data.d0 = 0x02 → decodeInbound .direction f.data = .stop ∧
      decode b (some f) f.id = (.accepted, some (.setDirection .stop))) ∧
    (3 ≤ f.data.d0.toNat → decodeInbound .direction f.data = .dirIgnore f.data.d0 ∧
      decode b (some f) f.id = (.unrecognizedOpcode, none))

/-- The opcode map of a DUTY build (R75), as instruction and as the decoder's command. -/
def Obligations.DutyOpcodeMap : Prop :=
  ∀ (b : Build) (f : Frame), b.protocol = .duty →
    (f.data.d0 = 0x00 → decodeInbound .duty f.data = .setPower (be32 f.data.d1 f.data.d2 f.data.d3 f.data.d4) ∧
      decode b (some f) f.id =
        (.accepted, some (.setPower (powerOf b.powerEncoding (be32 f.data.d1 f.data.d2 f.data.d3 f.data.d4))))) ∧
    (1 ≤ f.data.d0.toNat → decodeInbound .duty f.data = .dutyIgnore f.data.d0 ∧
      decode b (some f) f.id = (.unrecognizedOpcode, none))

/-- The magnitude word is the big-endian sum of `data[1..4]` (R76). -/
def Obligations.MagnitudeWordIsBigEndian : Prop :=
  ∀ p : Payload, p.magWord.toNat =
    p.d1.toNat * 2 ^ 24 + p.d2.toNat * 2 ^ 16 + p.d3.toNat * 2 ^ 8 + p.d4.toNat

/-- Under INT32 the SetPower value is the word in two's complement (R77). -/
def Obligations.Int32ValueIsTwosComplement : Prop :=
  ∀ w : Word32, ∃ v : Int, powerOf .int32 w = .int32 v ∧
    v = (if w.toNat < 2 ^ 31 then (w.toNat : Int) else (w.toNat : Int) - 2 ^ 32) ∧ -2 ^ 31 ≤ v ∧ v ≤ 2 ^ 31 - 1

/-- Under BINARY32 the SetPower value is the datum of R78: its five classes with the value of each, and on a finite one the
exact comparisons with 0 and the exact absolute value. -/
def Obligations.Binary32ValueIsTheDatum : Prop :=
  ∀ w : Word32,
    powerOf .binary32 w = .binary32 (F32.ofBits w) ∧
    (1 ≤ w.toNat / 2 ^ 23 % 2 ^ 8 → w.toNat / 2 ^ 23 % 2 ^ 8 ≤ 254 →
      F32.ofBits w = .finite (w.getLsbD 31)
        ((2 : Rat) ^ (((w.toNat / 2 ^ 23 % 2 ^ 8 : Nat) : Int) - 127) * (1 + ((w.toNat % 2 ^ 23 : Nat) : Rat) / 2 ^ 23))) ∧
    (w.toNat / 2 ^ 23 % 2 ^ 8 = 0 → w.toNat % 2 ^ 23 ≠ 0 →
      F32.ofBits w = .finite (w.getLsbD 31) ((2 : Rat) ^ (-126 : Int) * (((w.toNat % 2 ^ 23 : Nat) : Rat) / 2 ^ 23))) ∧
    (w.toNat / 2 ^ 23 % 2 ^ 8 = 0 → w.toNat % 2 ^ 23 = 0 → F32.ofBits w = .finite (w.getLsbD 31) 0) ∧
    (w.toNat / 2 ^ 23 % 2 ^ 8 = 255 → w.toNat % 2 ^ 23 = 0 → F32.ofBits w = .infinite (w.getLsbD 31)) ∧
    (w.toNat / 2 ^ 23 % 2 ^ 8 = 255 → w.toNat % 2 ^ 23 ≠ 0 → F32.ofBits w = .nan) ∧
    (∀ neg a, F32.ofBits w = .finite neg a →
      ((F32.ofBits w).isPositive = true ↔ 0 < (if neg then -a else a)) ∧
      ((F32.ofBits w).isNegative = true ↔ (if neg then -a else a) < 0) ∧
      a = |if neg then -a else a| ∧ ∀ hi, (F32.ofBits w).absMin hi = min a hi)

/-- The check of a BINARY32 build's `MAX_DUTY` (R6) accepts exactly the non-negative values some word stands for (R78). -/
def Obligations.Binary32CheckIsExact : Prop :=
  ∀ q : Mag, isBinary32 q = true ↔ ∃ w : Word32, F32.ofBits w = .finite false q

/-- The notation `POWER id, x` (R83) and the decoder's reading (R77, R78) agree: the encoding of a value the build's
format holds is read back as that value. -/
def Obligations.PowerNotationRoundTrip : Prop :=
  (∀ x : Mag, isBinary32 |x| = true →
    powerOf .binary32 (powerWord .binary32 x) = .binary32 (.finite (decide (x < 0)) |x|)) ∧
  (∀ v : Int, -2 ^ 31 ≤ v → v ≤ 2 ^ 31 - 1 → powerOf .int32 (powerWord .int32 (v : Rat)) = .int32 v)

/-- Under BINARY32, flipping the sign bit of a SetPower word swaps Forward and Reverse and leaves the magnitude (R156). For
INT32 and for the ceiling see OneCeilingBoundsBothDirections. -/
def Obligations.SignBitOnlySwapsDirection : Prop :=
  ∀ (hi : Mag) (w : Word32),
    (applyPowerF32 hi (F32.ofBits (w ^^^ 0x80000000))).mag = (applyPowerF32 hi (F32.ofBits w)).mag ∧
    ((applyPowerF32 hi (F32.ofBits (w ^^^ 0x80000000))).mode = .reverse ↔
      (applyPowerF32 hi (F32.ofBits w)).mode = .forward) ∧
    ((applyPowerF32 hi (F32.ofBits (w ^^^ 0x80000000))).mode = .forward ↔
      (applyPowerF32 hi (F32.ofBits w)).mode = .reverse)

/-- One ceiling bounds both directions (R166, the spec's decision D36, log entry 17; R156, R157): under either encoding no
word gives a magnitude outside `0` to the ceiling, a value at or beyond the ceiling gives the ceiling whatever its sign,
and under INT32 the negated value gives the same magnitude in the other direction (SignBitOnlySwapsDirection says the same
for BINARY32). -/
def Obligations.OneCeilingBoundsBothDirections : Prop :=
  ∀ hi : Mag, 0 ≤ hi →
    (∀ (enc : PowerEncoding) (m : Motor) (w : Word32),
      0 ≤ (commandPhase hi m (some (.setPower (powerOf enc w)))).mag ∧
      (commandPhase hi m (some (.setPower (powerOf enc w)))).mag ≤ hi) ∧
    (∀ (w : Word32) (neg : Bool) (a : Mag), F32.ofBits w = .finite neg a → hi ≤ a →
      (applyPowerF32 hi (F32.ofBits w)).mag = hi) ∧
    (∀ (w : Word32) (neg : Bool), F32.ofBits w = .infinite neg → (applyPowerF32 hi (F32.ofBits w)).mag = hi) ∧
    (∀ v : Int, hi ≤ |(v : Rat)| → (applyPowerI32 hi v).mag = hi) ∧
    (∀ v : Int, (applyPowerI32 hi (-v)).mag = (applyPowerI32 hi v).mag ∧
      ((applyPowerI32 hi (-v)).mode = .reverse ↔ (applyPowerI32 hi v).mode = .forward) ∧
      ((applyPowerI32 hi (-v)).mode = .forward ↔ (applyPowerI32 hi v).mode = .reverse))

/-! ### The decoder -/

/-- The classification of inbound frames (R84, R122): the identifier first, then the opcode. -/
def Obligations.EveryFrameIsClassified : Prop :=
  ∀ (pr : Protocol) (addr : Ident) (f : Frame),
    (verdictOf (receive pr addr (some f)) = some .unaddressed ↔ f.id ≠ addr) ∧
    (verdictOf (receive pr addr (some f)) = some .accepted ↔
      f.id = addr ∧ ((pr = .direction ∧ f.data.d0.toNat ≤ 2) ∨ (pr = .duty ∧ f.data.d0 = 0x00))) ∧
    (verdictOf (receive pr addr (some f)) = some .unrecognizedOpcode ↔
      f.id = addr ∧ ((pr = .direction ∧ 3 ≤ f.data.d0.toNat) ∨ (pr = .duty ∧ 1 ≤ f.data.d0.toNat)))

/-- The verdict of the decoder front end is the verdict of R120's contract, on every input. -/
def Obligations.VerdictIsTheContracts : Prop :=
  ∀ (b : Build) (addr : Ident) (rx : Option Frame),
    verdictOf (receive b.protocol addr rx) = some (decode b rx addr).1

/-- The bytes the decoder never reads (R132): two frames that agree on the identifier and, as far as the frame is looked
at, on the opcode and the magnitude bytes have one decoding. `dlc` is free throughout. -/
def Obligations.UnreadBytesDoNotChangeDecode : Prop :=
  ∀ (b : Build) (addr : Ident) (f g : Frame), f.id = g.id →
    (f.id = addr → f.data.d0 = g.data.d0) →
    (f.id = addr → b.protocol = .duty → f.data.d0 = 0x00 →
      f.data.d1 = g.data.d1 ∧ f.data.d2 = g.data.d2 ∧ f.data.d3 = g.data.d3 ∧ f.data.d4 = g.data.d4) →
    decode b (some f) addr = decode b (some g) addr

/-- The same of the whole cycle: the unread bytes of the received frame reach nothing (R132, R65). -/
def Obligations.UnreadBytesDoNotChangeStep : Prop :=
  ∀ (s : State) (f g : Frame), f.id = g.id →
    (f.id = s.nodeAddress → f.data.d0 = g.data.d0) →
    (f.id = s.nodeAddress → s.build.protocol = .duty → f.data.d0 = 0x00 →
      f.data.d1 = g.data.d1 ∧ f.data.d2 = g.data.d2 ∧ f.data.d3 = g.data.d3 ∧ f.data.d4 = g.data.d4) →
    step { s with rx := some f } = step { s with rx := some g }

/-! ### What each instruction does

In a node that is not halted every instruction answers the next state below. `State.finish` leaves every register but
`mode`, `mag`, the legs and `tx` as it was, so each is also the instruction's frame. The rules give each command its effect
in the builds of its own protocol; that `exec` gives it the same effect in a build of the other is the model's choice (log
entry 11). -/

/-- FORWARD: `(Forward, S.mag)` goes to the override phase, and the legs follow. R153 says so of a DIRECTION build; for a
DUTY build it is the model's choice (log entry 11). -/
def Obligations.ForwardResult : Prop :=
  ∀ s : State, s.halted = false → exec .forward s = .next (s.finish .forward s.mag)

/-- REVERSE: `(Reverse, S.mag)` goes to the override phase, from every mode. R154 says so of a DIRECTION build; for a DUTY
build it is the model's choice (log entry 11). -/
def Obligations.ReverseResult : Prop :=
  ∀ s : State, s.halted = false → exec .reverse s = .next (s.finish .reverse s.mag)

/-- STOP: Stopped at any limit state, both legs 0, no event. R155 says so of a DIRECTION build; for a DUTY build it is the
model's choice (log entry 11). -/
def Obligations.StopResult : Prop :=
  ∀ s : State, s.halted = false →
    exec .stop s = .next { s with mode := .stopped, mag := s.mag, dutyA := 0, dutyB := 0, tx := none }

/-- DIR_IGNORE and DUTY_IGNORE: the kept mode and magnitude go to the override phase. R127 says so (with R152, R203) of a
DIRECTION build and the opcodes from `0x03`, R129 of a DUTY build and the opcodes from `0x01`; that both do it in either
build and for every opcode byte is the model's choice (log entry 11). -/
def Obligations.IgnoredOpcodeResult : Prop :=
  ∀ (opcode : Byte) (s : State), s.halted = false →
    exec (.dirIgnore opcode) s = .next (s.finish s.mode s.mag) ∧
    exec (.dutyIgnore opcode) s = .next (s.finish s.mode s.mag)

/-- SETPOWER under BINARY32, by the class of the datum. R156 says so of a DUTY build; for a DIRECTION build, where
`POWER_ENCODING` is not read (R6), it is the model's choice (log entry 11). -/
def Obligations.SetPowerBinary32Result : Prop :=
  ∀ (w : Word32) (s : State), s.halted = false → s.build.powerEncoding = .binary32 →
    (F32.ofBits w = .nan → exec (.setPower w) s = .next (s.finish .stopped 0)) ∧
    (∀ neg, F32.ofBits w = .infinite neg →
      exec (.setPower w) s = .next (s.finish (if neg then .reverse else .forward) s.build.maxDuty)) ∧
    (∀ neg a, F32.ofBits w = .finite neg a → a ≠ 0 →
      exec (.setPower w) s = .next (s.finish (if neg then .reverse else .forward) (min a s.build.maxDuty))) ∧
    (∀ neg, F32.ofBits w = .finite neg 0 → exec (.setPower w) s = .next (s.finish .stopped 0))

/-- SETPOWER under INT32; the negation is exact, also of `−2^31`. R157 says so of a DUTY build; for a DIRECTION build, where
`POWER_ENCODING` is not read (R6), it is the model's choice (log entry 11). -/
def Obligations.SetPowerInt32Result : Prop :=
  ∀ (w : Word32) (s : State), s.halted = false → s.build.powerEncoding = .int32 →
    (0 < w.toInt → exec (.setPower w) s = .next (s.finish .forward (min (w.toInt : Rat) s.build.maxDuty))) ∧
    (w.toInt < 0 → exec (.setPower w) s = .next (s.finish .reverse (min (-(w.toInt : Rat)) s.build.maxDuty))) ∧
    (w.toInt = 0 → exec (.setPower w) s = .next (s.finish .stopped 0))

/-- STATUS_LIMIT (R73, R161): the StatusEvent frame stands on `tx`, and nothing else changes. That it is an instruction of
its own is the model's reading of the table (log entry 7). -/
def Obligations.StatusLimitResult : Prop :=
  ∀ (limit : Limit) (s : State), s.halted = false →
    exec (.statusLimit limit) s =
      .next { s with tx := some ⟨0x000, 2, ⟨0x30, if limit = .upper then 0x01 else 0x00, 0, 0, 0, 0, 0, 0⟩⟩ }

/-- No instruction touches the build, the boot-time registers or the input ports (R200, R7). That STATUS_LIMIT, an
instruction of its own by the model's reading of the table only, touches no motor register either is the model's choice
(log entry 7). -/
def Obligations.ExecFrame : Prop :=
  ∀ (i : Instr) (s t : State), exec i s = .next t →
    t.build = s.build ∧ t.nodeAddress = s.nodeAddress ∧ t.selector = s.selector ∧ t.indicator = s.indicator ∧
    t.halted = s.halted ∧ t.faultCause = s.faultCause ∧ t.dipN = s.dipN ∧ t.busInitOk = s.busInitOk ∧
    t.rx = s.rx ∧ t.upperN = s.upperN ∧ t.lowerN = s.lowerN ∧ t.script = s.script ∧
    (i.format = .status → t.mode = s.mode ∧ t.mag = s.mag ∧ t.dutyA = s.dutyA ∧ t.dutyB = s.dutyB)

/-- In a `LIMIT_STOP = OFF` build no cycle reads a limit pin or sends anything (R160, R202): with any other pin levels, a
command's `exec` and every step, with a command or without one, halted or not, answer the same but for the pins. After the
step the pins are the script's next levels, or with no script those that stood there (log entry 3). -/
def Obligations.PinsUnreadWithoutLimitStop : Prop :=
  (∀ (i : Instr) (s t : State) (u l : Level), s.build.limitStop = false → i.format ≠ .status →
    exec i s = .next t →
    t.tx = none ∧ exec i { s with upperN := u, lowerN := l } = .next { t with upperN := u, lowerN := l }) ∧
  (∀ (s t : State) (u l : Level), s.build.limitStop = false → step s = .next t →
    t.tx = none ∧
    step { s with upperN := u, lowerN := l } = .next (if s.script = [] then { t with upperN := u, lowerN := l } else t))

/-! ### The cycle -/

/-- A step runs the decoded instruction: what `exec` answers, with the input ports moved on to the next cycle (R200; how the
ports move on is log entry 3). -/
def Obligations.StepRunsTheDecodedInstruction : Prop :=
  ∀ (s t : State) (f : Frame) (i : Instr), s.halted = false → s.rx = some f → f.id = s.nodeAddress →
    decodeAs s.build.protocol.format f.data = .ok i → exec i s = .next t → step s = .next t.nextInputs

/-- A table word placed on the bus is the instruction the next step runs. That it travels in a frame with the node's own
identifier, which the very next step receives, is the model's choice (log entry 5); the bytes past the word are 0 by log
entry 16. R200 and R201 give the cycle that receives a frame. -/
def Obligations.PlacedWordRuns : Prop :=
  ∀ (s : State) (nbits w : Nat) (p : Payload), s.halted = false → tablePayload nbits w = some p →
    step (s.withFetchWord nbits w) = endCycle (exec (decodeInbound s.build.protocol p) (s.withFetchWord nbits w))

/-- The two decode paths agree: the step, which takes a frame through the instruction it encodes, answers the cycle of R200
under the command that R120's decoder contract yields. What the cycle does with a command is `State.cycle` on both sides,
and the ports move on as log entry 3 says. -/
def Obligations.StepIsTheNodeCycle : Prop :=
  ∀ s : State, step s = .next (s.cycle s.command).nextInputs

/-- A cycle with no frame or an unaddressed one keeps mode and magnitude and passes them through the override (R152,
R203); the ports move on as log entry 3 says. -/
def Obligations.CycleWithoutInstruction : Prop :=
  ∀ s : State, s.halted = false → (s.rx = none ∨ ∃ f, s.rx = some f ∧ f.id ≠ s.nodeAddress) →
    step s = .next (s.finish s.mode s.mag).nextInputs

/-- After a cycle without a command and without an active limit nothing the outside sees has changed (R203, E8). -/
def Obligations.NoCommandNoChange : Prop :=
  ∀ s t : State, s.Inv → s.halted = false → s.command = none → s.limitFires s.mode = none → step s = .next t →
    t.mode = s.mode ∧ t.mag = s.mag ∧ t.dutyA = s.dutyA ∧ t.dutyB = s.dutyB ∧ t.indicator = s.indicator ∧ t.tx = none

/-- No cycle changes the build, the boot-time registers or the reset-time ports (R7, R23, R24, R27, R28, R200). -/
def Obligations.StepFrame : Prop :=
  ∀ s t : State, step s = .next t →
    t.build = s.build ∧ t.nodeAddress = s.nodeAddress ∧ t.selector = s.selector ∧ t.indicator = s.indicator ∧
    t.halted = s.halted ∧ t.faultCause = s.faultCause ∧ t.dipN = s.dipN ∧ t.busInitOk = s.busInitOk

/-- The reset-time inputs do not reach a running node (R24, R100, R254). -/
def Obligations.BootInputsUnreadAfterReset : Prop :=
  ∀ (s t : State) (d : BitVec 4) (ok : Bool), step s = .next t →
    step { s with dipN := d, busInitOk := ok } = .next { t with dipN := d, busInitOk := ok }

/-- The received frame is gone after its cycle and the next inputs are the script's (R58; the script is the model's, log
entry 3). -/
def Obligations.InputsMoveOn : Prop :=
  ∀ s t : State, step s = .next t →
    (s.script = [] → t.rx = none ∧ t.upperN = s.upperN ∧ t.lowerN = s.lowerN ∧ t.script = []) ∧
    (∀ i rest, s.script = i :: rest →
      t.rx = i.rx ∧ t.upperN = i.upperN ∧ t.lowerN = i.lowerN ∧ t.script = rest)

/-- Runs of every length go through: no state faults, refuses or stops (R204, R206). -/
def Obligations.RunsNeverEnd : Prop :=
  ∀ (k : Nat) (s : State), ∃ t, Host.Core.run Sys2Proof.core k s = .next t

/-! ### The limit interlock and its event -/

/-- The interlock (R163): after a cycle of a `LIMIT_STOP = ON` node the mode does not move toward a limit that cycle
sampled active, and the leg that would is 0. Without the limit stop it does not hold. -/
def Obligations.InterlockHoldsEveryCycle : Prop :=
  (∀ s t : State, s.build.limitStop = true → s.halted = false → step s = .next t →
    ¬(t.mode = .forward ∧ s.upperN = .low) ∧ ¬(t.mode = .reverse ∧ s.lowerN = .low) ∧
    (s.upperN = .low → t.dutyA = 0) ∧ (s.lowerN = .low → t.dutyB = 0)) ∧
  (∃ s t : State, s.build.limitStop = false ∧ s.halted = false ∧ step s = .next t ∧ t.mode = .forward ∧ s.upperN = .low)

/-- A StatusEvent goes out in exactly the cycles whose command phase leaves a mode that moves toward an active limit, and
it names that limit (R158 to R162). -/
def Obligations.EventExactlyWhenTheLimitFires : Prop :=
  ∀ s t : State, s.halted = false → step s = .next t →
    t.tx = (s.limitFires (commandPhase s.build.maxDuty s.motor s.command).mode).map statusFrame

/-- The only frame the core sends is the STATUS frame (R73), `0x01` for the upper limit and `0x00` for the lower. -/
def Obligations.EveryFrameSentIsAStatusFrame : Prop :=
  ∀ (s t : State) (f : Frame), step s = .next t → t.tx = some f →
    f.id = 0x000 ∧ f.dlc = 2 ∧ f.data.d0 = 0x30 ∧
    f.data.d2 = 0 ∧ f.data.d3 = 0 ∧ f.data.d4 = 0 ∧ f.data.d5 = 0 ∧ f.data.d6 = 0 ∧ f.data.d7 = 0 ∧
    ((f.data.d1 = 0x01 ∧ s.limitFires (commandPhase s.build.maxDuty s.motor s.command).mode = some .upper ∧
        decodeAs .status f.data = .ok (.statusLimit .upper)) ∨
      (f.data.d1 = 0x00 ∧ s.limitFires (commandPhase s.build.maxDuty s.motor s.command).mode = some .lower ∧
        decodeAs .status f.data = .ok (.statusLimit .lower)))

/-- Stop twice (R165): in two consecutive cycles with a Stop or a SetPower of zero, the mode is Stopped, the legs are 0 and
no event goes out, in both. -/
def Obligations.StopIsIdempotent : Prop :=
  ∀ s t u : State, s.halted = false →
    (s.command = some (.setDirection .stop) ∨ s.command = some (.setPower (.int32 0)) ∨
      ∃ neg, s.command = some (.setPower (.binary32 (.finite neg 0)))) →
    step s = .next t →
    (t.command = some (.setDirection .stop) ∨ t.command = some (.setPower (.int32 0)) ∨
      ∃ neg, t.command = some (.setPower (.binary32 (.finite neg 0)))) →
    step t = .next u →
    t.mode = .stopped ∧ t.dutyA = 0 ∧ t.dutyB = 0 ∧ t.tx = none ∧
    u.mode = .stopped ∧ u.dutyA = 0 ∧ u.dutyB = 0 ∧ u.tx = none

/-- Once stopped, a node drives nothing and sends nothing for as long as no command comes, whatever the limit switches do
(R167, R253). -/
def Obligations.StoppedNodeStaysSilent : Prop :=
  ∀ (k : Nat) (s : State), s.halted = false → s.mode = .stopped → NoCommandFor k s →
    ∀ o ∈ trace k s, o.dutyA = 0 ∧ o.dutyB = 0 ∧ o.tx = none

/-- Mode and magnitude persist over any number of cycles without a command (R152), where the limit in the direction of the
mode is never active (R160): the build has no limit stop, or that switch is open now and in every scripted cycle (when the
script ends the pins stay, log entry 3). The other switch is free, and a stopped node needs neither. -/
def Obligations.MotionPersistsWithoutCommand : Prop :=
  ∀ (k : Nat) (s t : State), s.halted = false → NoCommandFor k s →
    (s.build.limitStop = false ∨
      ((s.mode = .forward → s.upperN = .high ∧ ∀ i ∈ s.script, i.upperN = .high) ∧
        (s.mode = .reverse → s.lowerN = .high ∧ ∀ i ∈ s.script, i.lowerN = .high))) →
    Host.Core.run Sys2Proof.core k s = .next t →
    t.mode = s.mode ∧ t.mag = s.mag ∧
    ∀ o ∈ trace k s, (o.dutyA, o.dutyB) = legDuties s.motor ∧ o.tx = none

/-! ### Invariants -/

/-- Every step keeps the invariant of the node, from every state that meets it. -/
def Obligations.EveryStepKeepsTheInvariant : Prop :=
  ∀ s t : State, s.Inv → step s = .next t → t.Inv

/-- The reset state meets the invariant; its build and port levels are the model's choice (log entries 1 and 4). -/
def Obligations.ResetMeetsTheInvariant : Prop := State.reset.Inv

/-- Power-on of any well-formed build, with any switches and either outcome of the bus controller, meets the invariant
(R36, R250). -/
def Obligations.PowerCycleMeetsTheInvariant : Prop :=
  ∀ s : State, s.build.wf = true → s.powerCycle.Inv

/-- At most one leg is driven, and each duty is in range (R184). -/
def Obligations.AtMostOneLegIsDriven : Prop :=
  ∀ s t : State, s.Inv → step s = .next t →
    (t.dutyA = 0 ∨ t.dutyB = 0) ∧ 0 ≤ t.dutyA ∧ t.dutyA ≤ 100 ∧ 0 ≤ t.dutyB ∧ t.dutyB ≤ 100 ∧
    (t.build.protocol = .duty → t.dutyA ≤ t.build.maxDuty ∧ t.dutyB ≤ t.build.maxDuty) ∧
    (t.build.protocol = .direction →
      (t.dutyA = 0 ∨ t.dutyA = t.build.directionDuty) ∧ (t.dutyB = 0 ∨ t.dutyB = t.build.directionDuty))

/-- In a DUTY build the magnitude held while Stopped is never seen: two states that differ in it alone have one future
(R164). -/
def Obligations.MagnitudeWhileStoppedIsNeverSeen : Prop :=
  ∀ (k : Nat) (s : State) (g : Mag), s.build.protocol = .duty → s.mode = .stopped →
    trace k { s with mag := g } = trace k s

/-- In a DIRECTION build no cycle writes another magnitude, and power-on leaves `DIRECTION_DUTY` (R164). -/
def Obligations.DirectionMagnitudeIsConstant : Prop :=
  ∀ s : State, s.build.protocol = .direction →
    s.powerCycle.mag = s.build.directionDuty ∧ ∀ t, step s = .next t → t.mag = s.mag

/-! ### Reset and the fault -/

/-- Reset leaves every register as R36 says. -/
def Obligations.PowerCycleLeavesResetValues : Prop :=
  ∀ s t : State, t = s.powerCycle →
    t.selector = ~~~s.dipN ∧
    t.nodeAddress = BitVec.ofNat 11 (s.build.baseAddress + t.selector.toNat) ∧
    (s.busInitOk = false → t.indicator = .faultBlink) ∧
    (∀ k : Fin 4, s.busInitOk = true → t.selector.toNat = k.val → t.indicator = .palette k) ∧
    (s.busInitOk = true → 4 ≤ t.selector.toNat → t.indicator = .unset) ∧
    t.mode = .stopped ∧
    (s.build.protocol = .direction → t.mag = s.build.directionDuty) ∧ (s.build.protocol = .duty → t.mag = 0) ∧
    t.dutyA = 0 ∧ t.dutyB = 0 ∧
    (t.halted = true ↔ s.busInitOk = false) ∧
    (s.busInitOk = false → t.faultCause = .busInitFailure) ∧ (s.busInitOk = true → t.faultCause = .none) ∧
    t.tx = none

/-- The selector is the weighted sum of the inverted pin levels (R101). -/
def Obligations.SelectorIsTheWeightedSum : Prop :=
  ∀ s : State, s.powerCycle.selector = ~~~s.dipN ∧ s.powerCycle.selector.toNat =
    (1 - (s.dipN.getLsbD 0).toNat) * 1 + (1 - (s.dipN.getLsbD 1).toNat) * 2 +
    (1 - (s.dipN.getLsbD 2).toNat) * 4 + (1 - (s.dipN.getLsbD 3).toNat) * 8

/-- The node address is the integer sum of base and selector and never wraps (R102, with the range of R6). -/
def Obligations.AddressIsBasePlusSelector : Prop :=
  ∀ s : State, s.build.baseAddress ≤ 0x7F0 →
    s.powerCycle.nodeAddress.toNat = s.build.baseAddress + s.powerCycle.selector.toNat ∧
    s.powerCycle.nodeAddress.toNat ≤ 0x7FF

/-- Fault entry (R224): the registers the fault writes, and the resolved address it keeps. -/
def Obligations.BusInitFailureHaltsTheNode : Prop :=
  ∀ s : State, s.busInitOk = false →
    s.powerCycle.halted = true ∧ s.powerCycle.faultCause = .busInitFailure ∧ s.powerCycle.indicator = .faultBlink ∧
    s.powerCycle.dutyA = 0 ∧ s.powerCycle.dutyB = 0 ∧
    s.powerCycle.nodeAddress = ({ s with busInitOk := true }).powerCycle.nodeAddress ∧
    s.powerCycle.selector = ({ s with busInitOk := true }).powerCycle.selector

/-- Nothing survives a power-cycle (R251): the registers after it depend on the build and the reset-time ports alone. -/
def Obligations.PowerCycleForgetsEveryRegister : Prop :=
  ∀ s s' : State, s.build = s'.build → s.dipN = s'.dipN → s.busInitOk = s'.busInitOk →
    s.powerCycle.sameRegisters s'.powerCycle ∧ s.powerCycle.tx = s'.powerCycle.tx

/-- `State.reset` is what power-on leaves (R36, R250) for the build, the switches and the bus outcome it names, which are
the model's choice (log entries 1 and 4). -/
def Obligations.ResetIsAPowerOn : Prop := State.reset.powerCycle = State.reset

/-- A halted node runs nothing (R225): whatever the instruction, frame or pins, no register changes and no frame goes
out. -/
def Obligations.HaltedNodeRunsNothing : Prop :=
  ∀ s : State, s.halted = true →
    (∀ i, exec i s = .next { s with tx := none }) ∧ ∃ t, step s = .next t ∧ s.sameRegisters t ∧ t.tx = none

/-- The halted state has no exit but a power-cycle (R226): no run of any length leaves it or changes a register, and a
power-cycle with a working bus controller does. -/
def Obligations.HaltedForEver : Prop :=
  (∀ (k : Nat) (s t : State), s.halted = true → Host.Core.run Sys2Proof.core k s = .next t →
    s.sameRegisters t ∧ ∀ o ∈ trace k s, o.tx = none ∧ o.dutyA = s.dutyA ∧ o.dutyB = s.dutyB) ∧
  (∀ s : State, s.busInitOk = true → s.powerCycle.halted = false)
end

