-- ==== Sys2Proof/Laws/Decode.lean ====
section
/-! SUPPORT. What the decoder's parts can answer, said once. -/

namespace Sys2Proof

/-- A frame reaches an instruction only when its identifier is the node's (R122). -/
theorem receive_eq_ok {p : Protocol} {addr : Ident} {rx : Option Frame} {i : Instr} (h : receive p addr rx = .ok i) :
    ∃ f, rx = some f ∧ f.id = addr ∧ i = decodeInbound p f.data := by
  cases rx with
  | none => cases h
  | some f =>
    by_cases hid : f.id = addr
    · refine ⟨f, rfl, hid, ?_⟩
      simp only [receive, if_pos hid] at h
      cases h; rfl
    · simp only [receive, if_neg hid] at h
      cases h

/-- The direction decoder's four answers (R74). -/
theorem decodeDirection_cases (p : Payload) :
    (p.d0 = 0 ∧ decodeDirection p = .forward) ∨ (p.d0 = 1 ∧ decodeDirection p = .reverse) ∨
    (p.d0 = 2 ∧ decodeDirection p = .stop) ∨
    (p.d0 ≠ 0 ∧ p.d0 ≠ 1 ∧ p.d0 ≠ 2 ∧ decodeDirection p = .dirIgnore p.d0) := by
  unfold decodeDirection Payload.opcode
  by_cases h0 : p.d0 = 0x00
  · exact .inl ⟨h0, if_pos h0⟩
  · by_cases h1 : p.d0 = 0x01
    · exact .inr (.inl ⟨h1, by rw [if_neg h0, if_pos h1]⟩)
    · by_cases h2 : p.d0 = 0x02
      · exact .inr (.inr (.inl ⟨h2, by rw [if_neg h0, if_neg h1, if_pos h2]⟩))
      · exact .inr (.inr (.inr ⟨h0, h1, h2, by rw [if_neg h0, if_neg h1, if_neg h2]⟩))

/-- The duty decoder's two answers (R75). -/
theorem decodeDuty_cases (p : Payload) :
    (p.d0 = 0 ∧ decodeDuty p = .setPower p.magWord) ∨ (p.d0 ≠ 0 ∧ decodeDuty p = .dutyIgnore p.d0) := by
  unfold decodeDuty Payload.opcode
  by_cases h0 : p.d0 = 0x00
  · exact .inl ⟨h0, if_pos h0⟩
  · exact .inr ⟨h0, if_neg h0⟩

end Sys2Proof
end

