-- ==== Sys2Proof/Laws/State.lean ====
section
/-! SUPPORT. One lemma per field per update of the state, each true by `rfl`, and the fields under the updates that branch. -/

namespace Sys2Proof.Machine

@[simp] theorem State.motor_mode (s : State) : s.motor.mode = s.mode := rfl
@[simp] theorem State.motor_mag (s : State) : s.motor.mag = s.mag := rfl

@[simp] theorem State.setMotor_build (s : State) (m : Motor) : (s.setMotor m).build = s.build := rfl
@[simp] theorem State.setMotor_nodeAddress (s : State) (m : Motor) : (s.setMotor m).nodeAddress = s.nodeAddress := rfl
@[simp] theorem State.setMotor_selector (s : State) (m : Motor) : (s.setMotor m).selector = s.selector := rfl
@[simp] theorem State.setMotor_indicator (s : State) (m : Motor) : (s.setMotor m).indicator = s.indicator := rfl
@[simp] theorem State.setMotor_mode (s : State) (m : Motor) : (s.setMotor m).mode = m.mode := rfl
@[simp] theorem State.setMotor_mag (s : State) (m : Motor) : (s.setMotor m).mag = m.mag := rfl
@[simp] theorem State.setMotor_dutyA (s : State) (m : Motor) : (s.setMotor m).dutyA = s.dutyA := rfl
@[simp] theorem State.setMotor_dutyB (s : State) (m : Motor) : (s.setMotor m).dutyB = s.dutyB := rfl
@[simp] theorem State.setMotor_halted (s : State) (m : Motor) : (s.setMotor m).halted = s.halted := rfl
@[simp] theorem State.setMotor_faultCause (s : State) (m : Motor) : (s.setMotor m).faultCause = s.faultCause := rfl
@[simp] theorem State.setMotor_tx (s : State) (m : Motor) : (s.setMotor m).tx = s.tx := rfl
@[simp] theorem State.setMotor_dipN (s : State) (m : Motor) : (s.setMotor m).dipN = s.dipN := rfl
@[simp] theorem State.setMotor_busInitOk (s : State) (m : Motor) : (s.setMotor m).busInitOk = s.busInitOk := rfl
@[simp] theorem State.setMotor_rx (s : State) (m : Motor) : (s.setMotor m).rx = s.rx := rfl
@[simp] theorem State.setMotor_upperN (s : State) (m : Motor) : (s.setMotor m).upperN = s.upperN := rfl
@[simp] theorem State.setMotor_lowerN (s : State) (m : Motor) : (s.setMotor m).lowerN = s.lowerN := rfl
@[simp] theorem State.setMotor_script (s : State) (m : Motor) : (s.setMotor m).script = s.script := rfl

@[simp] theorem State.drive_build (s : State) : s.drive.build = s.build := rfl
@[simp] theorem State.drive_nodeAddress (s : State) : s.drive.nodeAddress = s.nodeAddress := rfl
@[simp] theorem State.drive_selector (s : State) : s.drive.selector = s.selector := rfl
@[simp] theorem State.drive_indicator (s : State) : s.drive.indicator = s.indicator := rfl
@[simp] theorem State.drive_mode (s : State) : s.drive.mode = s.mode := rfl
@[simp] theorem State.drive_mag (s : State) : s.drive.mag = s.mag := rfl
@[simp] theorem State.drive_dutyA (s : State) : s.drive.dutyA = (legDuties s.motor).1 := rfl
@[simp] theorem State.drive_dutyB (s : State) : s.drive.dutyB = (legDuties s.motor).2 := rfl
@[simp] theorem State.drive_halted (s : State) : s.drive.halted = s.halted := rfl
@[simp] theorem State.drive_faultCause (s : State) : s.drive.faultCause = s.faultCause := rfl
@[simp] theorem State.drive_tx (s : State) : s.drive.tx = s.tx := rfl
@[simp] theorem State.drive_dipN (s : State) : s.drive.dipN = s.dipN := rfl
@[simp] theorem State.drive_busInitOk (s : State) : s.drive.busInitOk = s.busInitOk := rfl
@[simp] theorem State.drive_rx (s : State) : s.drive.rx = s.rx := rfl
@[simp] theorem State.drive_upperN (s : State) : s.drive.upperN = s.upperN := rfl
@[simp] theorem State.drive_lowerN (s : State) : s.drive.lowerN = s.lowerN := rfl
@[simp] theorem State.drive_script (s : State) : s.drive.script = s.script := rfl

@[simp] theorem State.emit_build (s : State) (ev : Option Limit) : (s.emit ev).build = s.build := rfl
@[simp] theorem State.emit_nodeAddress (s : State) (ev : Option Limit) : (s.emit ev).nodeAddress = s.nodeAddress := rfl
@[simp] theorem State.emit_selector (s : State) (ev : Option Limit) : (s.emit ev).selector = s.selector := rfl
@[simp] theorem State.emit_indicator (s : State) (ev : Option Limit) : (s.emit ev).indicator = s.indicator := rfl
@[simp] theorem State.emit_mode (s : State) (ev : Option Limit) : (s.emit ev).mode = s.mode := rfl
@[simp] theorem State.emit_mag (s : State) (ev : Option Limit) : (s.emit ev).mag = s.mag := rfl
@[simp] theorem State.emit_dutyA (s : State) (ev : Option Limit) : (s.emit ev).dutyA = s.dutyA := rfl
@[simp] theorem State.emit_dutyB (s : State) (ev : Option Limit) : (s.emit ev).dutyB = s.dutyB := rfl
@[simp] theorem State.emit_halted (s : State) (ev : Option Limit) : (s.emit ev).halted = s.halted := rfl
@[simp] theorem State.emit_faultCause (s : State) (ev : Option Limit) : (s.emit ev).faultCause = s.faultCause := rfl
@[simp] theorem State.emit_tx (s : State) (ev : Option Limit) : (s.emit ev).tx = ev.map statusFrame := rfl
@[simp] theorem State.emit_dipN (s : State) (ev : Option Limit) : (s.emit ev).dipN = s.dipN := rfl
@[simp] theorem State.emit_busInitOk (s : State) (ev : Option Limit) : (s.emit ev).busInitOk = s.busInitOk := rfl
@[simp] theorem State.emit_rx (s : State) (ev : Option Limit) : (s.emit ev).rx = s.rx := rfl
@[simp] theorem State.emit_upperN (s : State) (ev : Option Limit) : (s.emit ev).upperN = s.upperN := rfl
@[simp] theorem State.emit_lowerN (s : State) (ev : Option Limit) : (s.emit ev).lowerN = s.lowerN := rfl
@[simp] theorem State.emit_script (s : State) (ev : Option Limit) : (s.emit ev).script = s.script := rfl

@[simp] theorem State.present_build (s : State) (i : CycleInput) : (s.present i).build = s.build := rfl
@[simp] theorem State.present_nodeAddress (s : State) (i : CycleInput) : (s.present i).nodeAddress = s.nodeAddress := rfl
@[simp] theorem State.present_selector (s : State) (i : CycleInput) : (s.present i).selector = s.selector := rfl
@[simp] theorem State.present_indicator (s : State) (i : CycleInput) : (s.present i).indicator = s.indicator := rfl
@[simp] theorem State.present_mode (s : State) (i : CycleInput) : (s.present i).mode = s.mode := rfl
@[simp] theorem State.present_mag (s : State) (i : CycleInput) : (s.present i).mag = s.mag := rfl
@[simp] theorem State.present_dutyA (s : State) (i : CycleInput) : (s.present i).dutyA = s.dutyA := rfl
@[simp] theorem State.present_dutyB (s : State) (i : CycleInput) : (s.present i).dutyB = s.dutyB := rfl
@[simp] theorem State.present_halted (s : State) (i : CycleInput) : (s.present i).halted = s.halted := rfl
@[simp] theorem State.present_faultCause (s : State) (i : CycleInput) : (s.present i).faultCause = s.faultCause := rfl
@[simp] theorem State.present_tx (s : State) (i : CycleInput) : (s.present i).tx = s.tx := rfl
@[simp] theorem State.present_dipN (s : State) (i : CycleInput) : (s.present i).dipN = s.dipN := rfl
@[simp] theorem State.present_busInitOk (s : State) (i : CycleInput) : (s.present i).busInitOk = s.busInitOk := rfl
@[simp] theorem State.present_rx (s : State) (i : CycleInput) : (s.present i).rx = i.rx := rfl
@[simp] theorem State.present_upperN (s : State) (i : CycleInput) : (s.present i).upperN = i.upperN := rfl
@[simp] theorem State.present_lowerN (s : State) (i : CycleInput) : (s.present i).lowerN = i.lowerN := rfl
@[simp] theorem State.present_script (s : State) (i : CycleInput) : (s.present i).script = s.script := rfl

@[simp] theorem State.raiseFault_build (s : State) (c : FaultCause) : (s.raiseFault c).build = s.build := rfl
@[simp] theorem State.raiseFault_nodeAddress (s : State) (c : FaultCause) : (s.raiseFault c).nodeAddress = s.nodeAddress := rfl
@[simp] theorem State.raiseFault_selector (s : State) (c : FaultCause) : (s.raiseFault c).selector = s.selector := rfl
@[simp] theorem State.raiseFault_indicator (s : State) (c : FaultCause) : (s.raiseFault c).indicator = .faultBlink := rfl
@[simp] theorem State.raiseFault_mode (s : State) (c : FaultCause) : (s.raiseFault c).mode = s.mode := rfl
@[simp] theorem State.raiseFault_mag (s : State) (c : FaultCause) : (s.raiseFault c).mag = s.mag := rfl
@[simp] theorem State.raiseFault_dutyA (s : State) (c : FaultCause) : (s.raiseFault c).dutyA = 0 := rfl
@[simp] theorem State.raiseFault_dutyB (s : State) (c : FaultCause) : (s.raiseFault c).dutyB = 0 := rfl
@[simp] theorem State.raiseFault_halted (s : State) (c : FaultCause) : (s.raiseFault c).halted = true := rfl
@[simp] theorem State.raiseFault_faultCause (s : State) (c : FaultCause) : (s.raiseFault c).faultCause = c := rfl
@[simp] theorem State.raiseFault_tx (s : State) (c : FaultCause) : (s.raiseFault c).tx = s.tx := rfl
@[simp] theorem State.raiseFault_dipN (s : State) (c : FaultCause) : (s.raiseFault c).dipN = s.dipN := rfl
@[simp] theorem State.raiseFault_busInitOk (s : State) (c : FaultCause) : (s.raiseFault c).busInitOk = s.busInitOk := rfl
@[simp] theorem State.raiseFault_rx (s : State) (c : FaultCause) : (s.raiseFault c).rx = s.rx := rfl
@[simp] theorem State.raiseFault_upperN (s : State) (c : FaultCause) : (s.raiseFault c).upperN = s.upperN := rfl
@[simp] theorem State.raiseFault_lowerN (s : State) (c : FaultCause) : (s.raiseFault c).lowerN = s.lowerN := rfl
@[simp] theorem State.raiseFault_script (s : State) (c : FaultCause) : (s.raiseFault c).script = s.script := rfl

@[simp] theorem State.resolve_build (s : State) : s.resolve.build = s.build := rfl
@[simp] theorem State.resolve_nodeAddress (s : State) : s.resolve.nodeAddress = resolveAddress s.build.baseAddress (composeSelector s.dipN) := rfl
@[simp] theorem State.resolve_selector (s : State) : s.resolve.selector = composeSelector s.dipN := rfl
@[simp] theorem State.resolve_indicator (s : State) : s.resolve.indicator = s.indicator := rfl
@[simp] theorem State.resolve_mode (s : State) : s.resolve.mode = s.mode := rfl
@[simp] theorem State.resolve_mag (s : State) : s.resolve.mag = s.mag := rfl
@[simp] theorem State.resolve_dutyA (s : State) : s.resolve.dutyA = s.dutyA := rfl
@[simp] theorem State.resolve_dutyB (s : State) : s.resolve.dutyB = s.dutyB := rfl
@[simp] theorem State.resolve_halted (s : State) : s.resolve.halted = s.halted := rfl
@[simp] theorem State.resolve_faultCause (s : State) : s.resolve.faultCause = s.faultCause := rfl
@[simp] theorem State.resolve_tx (s : State) : s.resolve.tx = s.tx := rfl
@[simp] theorem State.resolve_dipN (s : State) : s.resolve.dipN = s.dipN := rfl
@[simp] theorem State.resolve_busInitOk (s : State) : s.resolve.busInitOk = s.busInitOk := rfl
@[simp] theorem State.resolve_rx (s : State) : s.resolve.rx = s.rx := rfl
@[simp] theorem State.resolve_upperN (s : State) : s.resolve.upperN = s.upperN := rfl
@[simp] theorem State.resolve_lowerN (s : State) : s.resolve.lowerN = s.lowerN := rfl
@[simp] theorem State.resolve_script (s : State) : s.resolve.script = s.script := rfl

@[simp] theorem State.clearMotor_build (s : State) : s.clearMotor.build = s.build := rfl
@[simp] theorem State.clearMotor_nodeAddress (s : State) : s.clearMotor.nodeAddress = s.nodeAddress := rfl
@[simp] theorem State.clearMotor_selector (s : State) : s.clearMotor.selector = s.selector := rfl
@[simp] theorem State.clearMotor_indicator (s : State) : s.clearMotor.indicator = s.indicator := rfl
@[simp] theorem State.clearMotor_mode (s : State) : s.clearMotor.mode = .stopped := rfl
@[simp] theorem State.clearMotor_mag (s : State) : s.clearMotor.mag = resetMag s.build := rfl
@[simp] theorem State.clearMotor_dutyA (s : State) : s.clearMotor.dutyA = 0 := rfl
@[simp] theorem State.clearMotor_dutyB (s : State) : s.clearMotor.dutyB = 0 := rfl
@[simp] theorem State.clearMotor_halted (s : State) : s.clearMotor.halted = false := rfl
@[simp] theorem State.clearMotor_faultCause (s : State) : s.clearMotor.faultCause = .none := rfl
@[simp] theorem State.clearMotor_tx (s : State) : s.clearMotor.tx = none := rfl
@[simp] theorem State.clearMotor_dipN (s : State) : s.clearMotor.dipN = s.dipN := rfl
@[simp] theorem State.clearMotor_busInitOk (s : State) : s.clearMotor.busInitOk = s.busInitOk := rfl
@[simp] theorem State.clearMotor_rx (s : State) : s.clearMotor.rx = s.rx := rfl
@[simp] theorem State.clearMotor_upperN (s : State) : s.clearMotor.upperN = s.upperN := rfl
@[simp] theorem State.clearMotor_lowerN (s : State) : s.clearMotor.lowerN = s.lowerN := rfl
@[simp] theorem State.clearMotor_script (s : State) : s.clearMotor.script = s.script := rfl

@[simp] theorem State.withFetchWord_build (s : State) (nbits w : Nat) : (s.withFetchWord nbits w).build = s.build := rfl
@[simp] theorem State.withFetchWord_nodeAddress (s : State) (nbits w : Nat) : (s.withFetchWord nbits w).nodeAddress = s.nodeAddress := rfl
@[simp] theorem State.withFetchWord_selector (s : State) (nbits w : Nat) : (s.withFetchWord nbits w).selector = s.selector := rfl
@[simp] theorem State.withFetchWord_indicator (s : State) (nbits w : Nat) : (s.withFetchWord nbits w).indicator = s.indicator := rfl
@[simp] theorem State.withFetchWord_mode (s : State) (nbits w : Nat) : (s.withFetchWord nbits w).mode = s.mode := rfl
@[simp] theorem State.withFetchWord_mag (s : State) (nbits w : Nat) : (s.withFetchWord nbits w).mag = s.mag := rfl
@[simp] theorem State.withFetchWord_dutyA (s : State) (nbits w : Nat) : (s.withFetchWord nbits w).dutyA = s.dutyA := rfl
@[simp] theorem State.withFetchWord_dutyB (s : State) (nbits w : Nat) : (s.withFetchWord nbits w).dutyB = s.dutyB := rfl
@[simp] theorem State.withFetchWord_halted (s : State) (nbits w : Nat) : (s.withFetchWord nbits w).halted = s.halted := rfl
@[simp] theorem State.withFetchWord_faultCause (s : State) (nbits w : Nat) : (s.withFetchWord nbits w).faultCause = s.faultCause := rfl
@[simp] theorem State.withFetchWord_tx (s : State) (nbits w : Nat) : (s.withFetchWord nbits w).tx = s.tx := rfl
@[simp] theorem State.withFetchWord_dipN (s : State) (nbits w : Nat) : (s.withFetchWord nbits w).dipN = s.dipN := rfl
@[simp] theorem State.withFetchWord_busInitOk (s : State) (nbits w : Nat) : (s.withFetchWord nbits w).busInitOk = s.busInitOk := rfl
@[simp] theorem State.withFetchWord_rx (s : State) (nbits w : Nat) : (s.withFetchWord nbits w).rx = s.fetchFrame nbits w := rfl
@[simp] theorem State.withFetchWord_upperN (s : State) (nbits w : Nat) : (s.withFetchWord nbits w).upperN = s.upperN := rfl
@[simp] theorem State.withFetchWord_lowerN (s : State) (nbits w : Nat) : (s.withFetchWord nbits w).lowerN = s.lowerN := rfl
@[simp] theorem State.withFetchWord_script (s : State) (nbits w : Nat) : (s.withFetchWord nbits w).script = s.script := rfl

/-! `setIndicator` and `nextInputs` branch: the fields they leave alone. -/

@[simp] theorem State.setIndicator_build (s : State) : s.setIndicator.build = s.build := by
  unfold State.setIndicator; split <;> rfl
@[simp] theorem State.setIndicator_nodeAddress (s : State) : s.setIndicator.nodeAddress = s.nodeAddress := by
  unfold State.setIndicator; split <;> rfl
@[simp] theorem State.setIndicator_selector (s : State) : s.setIndicator.selector = s.selector := by
  unfold State.setIndicator; split <;> rfl
@[simp] theorem State.setIndicator_mode (s : State) : s.setIndicator.mode = s.mode := by
  unfold State.setIndicator; split <;> rfl
@[simp] theorem State.setIndicator_mag (s : State) : s.setIndicator.mag = s.mag := by
  unfold State.setIndicator; split <;> rfl
@[simp] theorem State.setIndicator_dutyA (s : State) : s.setIndicator.dutyA = s.dutyA := by
  unfold State.setIndicator; split <;> rfl
@[simp] theorem State.setIndicator_dutyB (s : State) : s.setIndicator.dutyB = s.dutyB := by
  unfold State.setIndicator; split <;> rfl
@[simp] theorem State.setIndicator_halted (s : State) : s.setIndicator.halted = s.halted := by
  unfold State.setIndicator; split <;> rfl
@[simp] theorem State.setIndicator_faultCause (s : State) : s.setIndicator.faultCause = s.faultCause := by
  unfold State.setIndicator; split <;> rfl
@[simp] theorem State.setIndicator_tx (s : State) : s.setIndicator.tx = s.tx := by
  unfold State.setIndicator; split <;> rfl
@[simp] theorem State.setIndicator_dipN (s : State) : s.setIndicator.dipN = s.dipN := by
  unfold State.setIndicator; split <;> rfl
@[simp] theorem State.setIndicator_busInitOk (s : State) : s.setIndicator.busInitOk = s.busInitOk := by
  unfold State.setIndicator; split <;> rfl
@[simp] theorem State.setIndicator_rx (s : State) : s.setIndicator.rx = s.rx := by
  unfold State.setIndicator; split <;> rfl
@[simp] theorem State.setIndicator_upperN (s : State) : s.setIndicator.upperN = s.upperN := by
  unfold State.setIndicator; split <;> rfl
@[simp] theorem State.setIndicator_lowerN (s : State) : s.setIndicator.lowerN = s.lowerN := by
  unfold State.setIndicator; split <;> rfl
@[simp] theorem State.setIndicator_script (s : State) : s.setIndicator.script = s.script := by
  unfold State.setIndicator; split <;> rfl

@[simp] theorem State.nextInputs_build (s : State) : s.nextInputs.build = s.build := by
  unfold State.nextInputs; split <;> rfl
@[simp] theorem State.nextInputs_nodeAddress (s : State) : s.nextInputs.nodeAddress = s.nodeAddress := by
  unfold State.nextInputs; split <;> rfl
@[simp] theorem State.nextInputs_selector (s : State) : s.nextInputs.selector = s.selector := by
  unfold State.nextInputs; split <;> rfl
@[simp] theorem State.nextInputs_indicator (s : State) : s.nextInputs.indicator = s.indicator := by
  unfold State.nextInputs; split <;> rfl
@[simp] theorem State.nextInputs_mode (s : State) : s.nextInputs.mode = s.mode := by
  unfold State.nextInputs; split <;> rfl
@[simp] theorem State.nextInputs_mag (s : State) : s.nextInputs.mag = s.mag := by
  unfold State.nextInputs; split <;> rfl
@[simp] theorem State.nextInputs_dutyA (s : State) : s.nextInputs.dutyA = s.dutyA := by
  unfold State.nextInputs; split <;> rfl
@[simp] theorem State.nextInputs_dutyB (s : State) : s.nextInputs.dutyB = s.dutyB := by
  unfold State.nextInputs; split <;> rfl
@[simp] theorem State.nextInputs_halted (s : State) : s.nextInputs.halted = s.halted := by
  unfold State.nextInputs; split <;> rfl
@[simp] theorem State.nextInputs_faultCause (s : State) : s.nextInputs.faultCause = s.faultCause := by
  unfold State.nextInputs; split <;> rfl
@[simp] theorem State.nextInputs_tx (s : State) : s.nextInputs.tx = s.tx := by
  unfold State.nextInputs; split <;> rfl
@[simp] theorem State.nextInputs_dipN (s : State) : s.nextInputs.dipN = s.dipN := by
  unfold State.nextInputs; split <;> rfl
@[simp] theorem State.nextInputs_busInitOk (s : State) : s.nextInputs.busInitOk = s.busInitOk := by
  unfold State.nextInputs; split <;> rfl

/-- What the input ports hold after a cycle when the script has an entry. -/
theorem State.nextInputs_of_cons (s : State) (i : CycleInput) (rest : List CycleInput) (h : s.script = i :: rest) :
    s.nextInputs = { s.present i with script := rest } := by
  unfold State.nextInputs; rw [h]

/-- What the input ports hold after a cycle when nothing is scripted. -/
theorem State.nextInputs_of_nil (s : State) (h : s.script = []) : s.nextInputs = { s with rx := none } := by
  unfold State.nextInputs; rw [h]

/-- The observation does not depend on the input ports. -/
@[simp] theorem State.nextInputs_motor (s : State) : s.nextInputs.motor = s.motor := by
  simp [State.motor]

end Sys2Proof.Machine
end

