-- ==== Sys2Proof/Laws/Ops.lean ====
section
/-! SUPPORT. What each shared operation can do, said once; later proofs cite these and do not unfold the operations. -/

namespace Sys2Proof

/-- The model's minimum is the order's. -/
theorem minMag_eq_min (a b : Mag) : minMag a b = min a b := by
  unfold minMag
  split
  case isTrue h => exact (min_eq_left h).symm
  case isFalse h => exact (min_eq_right (le_of_lt (not_le.mp h))).symm

namespace Machine

/-- The absolute value of a binary32 datum is not negative (R78). -/
theorem F32.ofBits_absValue_nonneg {w : Word32} {neg : Bool} {a : Mag} (h : F32.ofBits w = .finite neg a) : 0 ≤ a := by
  unfold F32.ofBits at h
  split at h
  · split at h <;> cases h
  · split at h
    · cases h
      rw [Rat.mkRat_eq_div]; positivity
    · cases h
      rw [Rat.mkRat_eq_div]; positivity

/-- APPLY_POWER_F32, by the class of the datum. -/
theorem applyPowerF32_finite (hi : Mag) (neg : Bool) (a : Mag) :
    applyPowerF32 hi (.finite neg a) =
      if a = 0 then ⟨.stopped, 0⟩ else ⟨if neg then .reverse else .forward, minMag a hi⟩ := by
  unfold applyPowerF32 F32.isPositive F32.isNegative F32.absMin
  by_cases ha : a = 0 <;> cases neg <;> simp [ha]

theorem applyPowerF32_infinite (hi : Mag) (neg : Bool) :
    applyPowerF32 hi (.infinite neg) = ⟨if neg then .reverse else .forward, hi⟩ := by
  unfold applyPowerF32 F32.isPositive F32.isNegative F32.absMin
  cases neg <;> simp

theorem applyPowerF32_nan (hi : Mag) : applyPowerF32 hi .nan = ⟨.stopped, 0⟩ := if_pos rfl

/-- APPLY_POWER_I32, by the sign of the operand. -/
theorem applyPowerI32_cases (hi : Mag) (v : Int) :
    (0 < v ∧ applyPowerI32 hi v = ⟨.forward, min (v : Rat) hi⟩) ∨
    (v < 0 ∧ applyPowerI32 hi v = ⟨.reverse, min (-(v : Rat)) hi⟩) ∨
    (v = 0 ∧ applyPowerI32 hi v = ⟨.stopped, 0⟩) := by
  unfold applyPowerI32
  rcases lt_trichotomy v 0 with h | h | h
  · exact .inr (.inl ⟨h, by rw [if_neg (by omega), if_pos h, minMag_eq_min]; push_cast; rfl⟩)
  · exact .inr (.inr ⟨h, by rw [if_neg (by omega), if_neg (by omega)]⟩)
  · exact .inl ⟨h, by rw [if_pos h, minMag_eq_min]⟩

/-- The override phase never makes a moving mode, and it keeps the magnitude (R158 to R160). -/
theorem overridePhase_cases (m : Motor) (u l : Bool) :
    (m.mode = .forward ∧ u = true ∧ overridePhase m u l = (⟨.stopped, m.mag⟩, some .upper)) ∨
    (m.mode = .reverse ∧ l = true ∧ overridePhase m u l = (⟨.stopped, m.mag⟩, some .lower)) ∨
    (¬(m.mode = .forward ∧ u = true) ∧ ¬(m.mode = .reverse ∧ l = true) ∧ overridePhase m u l = (m, none)) := by
  obtain ⟨mode, g⟩ := m
  cases mode <;> cases u <;> cases l <;> simp [overridePhase]

/-- A halted cycle (R225). -/
theorem State.cycle_of_halted (s : State) (cmd : Option Command) (h : s.halted = true) :
    s.cycle cmd = s.haltedCycle := if_pos h

/-- A running cycle (R200), its phases named. -/
theorem State.cycle_of_running (s : State) (cmd : Option Command) (h : s.halted = false) :
    s.cycle cmd =
      ((s.setMotor (arbitrate s.build.maxDuty s.motor cmd (atUpperLimit s) (atLowerLimit s)).1).drive).emit
        (arbitrate s.build.maxDuty s.motor cmd (atUpperLimit s) (atLowerLimit s)).2 := by
  unfold State.cycle
  rw [h]; rfl

/-- Every cycle leaves the build, the boot-time registers and the input ports alone (R200). -/
theorem State.cycle_frame (s : State) (cmd : Option Command) :
    (s.cycle cmd).build = s.build ∧ (s.cycle cmd).nodeAddress = s.nodeAddress ∧
    (s.cycle cmd).selector = s.selector ∧ (s.cycle cmd).indicator = s.indicator ∧
    (s.cycle cmd).halted = s.halted ∧ (s.cycle cmd).faultCause = s.faultCause ∧
    (s.cycle cmd).dipN = s.dipN ∧ (s.cycle cmd).busInitOk = s.busInitOk ∧
    (s.cycle cmd).rx = s.rx ∧ (s.cycle cmd).upperN = s.upperN ∧ (s.cycle cmd).lowerN = s.lowerN ∧
    (s.cycle cmd).script = s.script := by
  cases h : s.halted with
  | true => rw [s.cycle_of_halted cmd h]; simp [State.haltedCycle, h]
  | false => rw [s.cycle_of_running cmd h]; simp [h]

/-- The kinds of command a build's decoder can yield (R74, R75, R80). -/
def CommandOf (b : Build) (cmd : Option Command) : Prop :=
  cmd = none ∨ (b.protocol = .direction ∧ ∃ d, cmd = some (.setDirection d)) ∨
    (b.protocol = .duty ∧ ∃ w, cmd = some (.setPower (powerOf b.powerEncoding w)))

/-- An instruction the build's decoder yields runs one cycle under a command of that build. -/
theorem exec_decodeInbound (s : State) (p : Payload) :
    ∃ cmd, CommandOf s.build cmd ∧ exec (decodeInbound s.build.protocol p) s = .next (s.cycle cmd) := by
  cases hp : s.build.protocol with
  | direction =>
    rcases decodeDirection_cases p with ⟨-, hd⟩ | ⟨-, hd⟩ | ⟨-, hd⟩ | ⟨-, -, -, hd⟩ <;>
      rw [decodeInbound, hd]
    · exact ⟨_, .inr (.inl ⟨hp, _, rfl⟩), rfl⟩
    · exact ⟨_, .inr (.inl ⟨hp, _, rfl⟩), rfl⟩
    · exact ⟨_, .inr (.inl ⟨hp, _, rfl⟩), rfl⟩
    · exact ⟨_, .inl rfl, rfl⟩
  | duty =>
    rcases decodeDuty_cases p with ⟨-, hd⟩ | ⟨-, hd⟩ <;> rw [decodeInbound, hd]
    · exact ⟨_, .inr (.inr ⟨hp, _, rfl⟩), rfl⟩
    · exact ⟨_, .inl rfl, rfl⟩

/-- A halted node fetches nothing (R225). -/
theorem State.fetch_of_halted (s : State) (h : s.halted = true) : s.fetch = .error .halted := if_pos h

/-- A running node fetches what its decoder front end answers (R200 step 2). -/
theorem State.fetch_of_running (s : State) (h : s.halted = false) :
    s.fetch = receive s.build.protocol s.nodeAddress s.rx := by
  unfold State.fetch
  rw [h]; rfl

/-- A step that fetches an instruction. -/
theorem step_of_fetch_ok {s : State} {i : Instr} (h : s.fetch = .ok i) : step s = endCycle (exec i s) := by
  unfold step
  rw [h]

/-- A step that fetches none. -/
theorem step_of_fetch_error {s : State} {e : Rejection} (h : s.fetch = .error e) :
    step s = .next (s.cycle none).nextInputs := by
  unfold step
  rw [h]; rfl

/-- Everything a step can do: it answers a next state, which is one cycle under a command the build's decoder can yield,
none in a halted node, after which the input ports move on. -/
theorem step_eq_cycle (s : State) :
    ∃ cmd, CommandOf s.build cmd ∧ (s.halted = true → cmd = none) ∧ step s = .next (s.cycle cmd).nextInputs := by
  cases h : s.halted with
  | true => exact ⟨none, .inl rfl, fun _ => rfl, step_of_fetch_error (s.fetch_of_halted h)⟩
  | false =>
    cases hr : receive s.build.protocol s.nodeAddress s.rx with
    | error e =>
      exact ⟨none, .inl rfl, fun _ => rfl, step_of_fetch_error ((s.fetch_of_running h).trans hr)⟩
    | ok i =>
      obtain ⟨f, -, -, rfl⟩ := receive_eq_ok hr
      obtain ⟨cmd, hc, he⟩ := exec_decodeInbound s f.data
      refine ⟨cmd, hc, fun h' => absurd h' (by simp), ?_⟩
      rw [step_of_fetch_ok ((s.fetch_of_running h).trans hr), he]; rfl

end Machine

end Sys2Proof
end

