-- ==== Sys2Proof/Laws/PerInstr.lean ====
section
/-! SUPPORT. The statement made per instruction: the encoder writes nothing past the bytes R83 lists. -/

namespace Sys2Proof.Laws.ListedBytes

/-- An instruction's frame lists between one and eight bytes, the first is its opcode, and every byte the frame does not
list is `0x00` (R83). -/
def Statement (i : Instr) : Prop :=
  1 ≤ i.length.val ∧ (encode i).opcode = i.opcode ∧ ∀ k : Fin 8, i.length.val ≤ k.val → (encode i).byte k = 0

theorem forward : Statement .forward := by unfold Statement; decide
theorem reverse : Statement .reverse := by unfold Statement; decide
theorem stop : Statement .stop := by unfold Statement; decide

theorem dirIgnore (opcode : Byte) : Statement (.dirIgnore opcode) := by
  refine ⟨by simp [Instr.length], rfl, fun k hk => ?_⟩
  fin_cases k <;> first | rfl | simp [Instr.length] at hk

theorem setPower (word : Word32) : Statement (.setPower word) := by
  refine ⟨by simp [Instr.length], rfl, fun k hk => ?_⟩
  fin_cases k <;> first | rfl | simp [Instr.length] at hk

theorem dutyIgnore (opcode : Byte) : Statement (.dutyIgnore opcode) := by
  refine ⟨by simp [Instr.length], rfl, fun k hk => ?_⟩
  fin_cases k <;> first | rfl | simp [Instr.length] at hk

theorem statusLimit (limit : Limit) : Statement (.statusLimit limit) := by
  refine ⟨by simp [Instr.length], rfl, fun k hk => ?_⟩
  fin_cases k <;> first | rfl | simp [Instr.length] at hk

end Sys2Proof.Laws.ListedBytes
end

