-- ==== Sys2Proof/Tests/Slice0.lean ====
section
/-! SUPPORT. The model's own tests: WellFormed smoke, words written out from the spec's encodings, small single cycles from
`95_test_vectors.md`, and one witness for the hypotheses of each statement. -/

namespace Sys2Proof.Tests

open Sys2Proof.Machine

/-- The state a step or a meaning answers. -/
def stateOf : Host.Outcome State Fault Refusal → Option State
  | .next t => some t
  | .fault _ => none
  | .refused _ => none

/-- The duty build of scenario E7, under one power encoding. -/
def dutyBuild (encoding : PowerEncoding) : Build :=
  { Config.observedBuild with protocol := .duty, powerEncoding := encoding, baseAddress := 0x100 }

/-- The node of row Z2: a DUTY build at 0x103. -/
def dutyNode (encoding : PowerEncoding) : State :=
  { State.reset with
    build := dutyBuild encoding, nodeAddress := 0x103, selector := 3, indicator := .palette 3, mag := 0, dipN := 0b1100 }

/-- The node of P4: a bus-init failure at reset. -/
def haltedNode : State := { State.reset with dipN := 0b1110, busInitOk := false }.powerCycle

/-- A node in `Forward` at 25, as after P1 cycle c1. -/
def forwardNode : State := { State.reset with mode := .forward, dutyA := 25 }

/-- The bytes of a payload, the unlisted ones 0 (R83). -/
def bytes (d0 : Byte) (d1 d2 d3 d4 : Byte := 0) : Payload := ⟨d0, d1, d2, d3, d4, 0, 0, 0⟩

/-- A frame on the `rx` port. -/
def withRx (s : State) (id : Ident) (p : Payload) : State := { s with rx := some ⟨id, 8, p⟩ }

/-- What the vector tables of the spec show of a cycle. -/
def row (s : State) : Option (Mode × Mag × Mag × Mag × Option Frame) :=
  (stateOf (step s)).map fun t => (t.mode, t.mag, t.dutyA, t.dutyB, t.tx)

/-! ### WellFormed -/

theorem test_dirIgnore_recognized_opcode_ill_formed : (Instr.dirIgnore 0x02).wf = false := by decide
theorem test_dutyIgnore_recognized_opcode_ill_formed : (Instr.dutyIgnore 0x00).wf = false := by decide
theorem test_forward_not_in_duty_build : Instr.forward.wfIn .duty = false := by decide
theorem test_setPower_not_in_direction_build : (Instr.setPower 0).wfIn .direction = false := by decide
theorem test_status_is_no_inbound_command :
    (Instr.statusLimit .upper).wfIn .direction = false ∧ (Instr.statusLimit .upper).wfIn .duty = false := by decide
theorem test_base_above_0x7F0_ill_formed :
    ({ Config.observedBuild with baseAddress := 0x7F1 } : Build).wf = false := by decide
theorem test_maxDuty_above_100_ill_formed : ({ Config.observedBuild with maxDuty := 101 } : Build).wf = false := by decide
theorem test_maxDuty_negative_ill_formed : ({ Config.observedBuild with maxDuty := -1 } : Build).wf = false := by decide
theorem test_directionDuty_above_100_ill_formed :
    ({ Config.observedBuild with directionDuty := 101 } : Build).wf = false := by decide
theorem test_directionDuty_negative_ill_formed :
    ({ Config.observedBuild with directionDuty := -1 } : Build).wf = false := by decide
theorem test_maxDuty_third_not_binary32 :
    ({ Config.observedBuild with maxDuty := mkRat 1 3 } : Build).wf = false := by decide
theorem test_maxDuty_25_bits_not_binary32 : isBinary32 (mkRat (2 ^ 24 + 1) (2 ^ 20)) = false := by decide
theorem test_2_pow_128_not_binary32 : isBinary32 (2 ^ 128 : Nat) = false := by decide
theorem test_maxDuty_half_not_int32 :
    ({ dutyBuild .int32 with maxDuty := mkRat 1 2 } : Build).wf = false := by decide
theorem test_observed_builds_well_formed :
    Config.observedBuild.wf = true ∧ (dutyBuild .binary32).wf = true ∧ (dutyBuild .int32).wf = true := by decide
theorem test_variant_strings :
    Config.observedBuild.variant = "DCMD-DIR-LS" ∧
    ({ dutyBuild .binary32 with limitStop := false } : Build).variant = "DCMD-DUTY-NOLS-F32" := by decide

/-! ### Decoding: every constructor's word, written out from R71 to R75 -/

theorem test_decode_forward : decodeBytes .dirCmd [0x00] = .ok .forward := by decide
theorem test_decode_reverse : decodeBytes .dirCmd [0x01, 0xFF] = .ok .reverse := by decide
theorem test_decode_stop :
    decodeBytes .dirCmd [0x02, 0xAA, 0xBB, 0xCC, 0xDD, 0xEE, 0xFF, 0x11] = .ok .stop := by decide
theorem test_decode_dirIgnore : decodeBytes .dirCmd [0x03] = .ok (.dirIgnore 0x03) := by decide
theorem test_decode_dirIgnore_status_opcode : decodeBytes .dirCmd [0x30, 0x01] = .ok (.dirIgnore 0x30) := by decide
theorem test_decode_setPower :
    decodeBytes .dutyCmd [0x00, 0xC2, 0xF0, 0x12, 0x34, 0xDE, 0xAD, 0xBE] = .ok (.setPower 0xC2F01234) := by decide
theorem test_decode_dutyIgnore : decodeBytes .dutyCmd [0x01, 0x42, 0x48, 0, 0] = .ok (.dutyIgnore 0x01) := by decide
theorem test_decode_status :
    decodeBytes .status [0x30, 0x01] = .ok (.statusLimit .upper) ∧
    decodeBytes .status [0x30, 0x00] = .ok (.statusLimit .lower) := by decide
theorem test_decode_status_rejects :
    decodeBytes .status [0x31, 0x00] = .error (.notStatusOpcode 0x31) ∧
    decodeBytes .status [0x30, 0x02] = .error (.noSuchLimit 0x02) := by decide
theorem test_decode_rejects_nine_bytes : decodeBytes .dirCmd [0, 0, 0, 0, 0, 0, 0, 0, 0] = .error .tooLong := by decide
theorem test_encode_setPower : encode (.setPower 0xC2F01234) = ⟨0x00, 0xC2, 0xF0, 0x12, 0x34, 0, 0, 0⟩ := by decide
theorem test_payload_word : (bytes 0x01 0x23).word = 0x0123000000000000 := by decide
theorem test_table_words :
    decodeTableWord 8 0x00 = some .forward ∧ decodeTableWord 8 0x01 = some .reverse ∧
    decodeTableWord 8 0x02 = some .stop ∧ decodeTableWord 8 0x80 = some (.dirIgnore 0x80) ∧
    decodeTableWord 16 0xFF02 = some .stop := by decide
/-- Rows X1, X8, X9, X10: no frame and unaddressed frames; the whole 11-bit identifier counts. -/
theorem test_verdicts :
    verdictOf (receive .direction 0x300 none) = some .noFrame ∧
    verdictOf (receive .direction 0x300 (some ⟨0x301, 1, bytes 0x00⟩)) = some .unaddressed ∧
    verdictOf (receive .direction 0x300 (some ⟨0x000, 2, bytes 0x30 0x01⟩)) = some .unaddressed ∧
    verdictOf (receive .direction 0x300 (some ⟨0x700, 1, bytes 0x02⟩)) = some .unaddressed := by decide
/-- Rows X12, X13: `dlc` is not read. -/
theorem test_dlc_unread :
    receive .direction 0x300 (some ⟨0x300, 0, bytes 0x00⟩) = .ok .forward ∧
    receive .direction 0x300 (some ⟨0x300, 8, bytes 0x00⟩) = .ok .forward := by decide

/-! ### Operands: rows F1, F2, F5, F12 to F17 of section 4 and the notation of R83 -/

theorem test_f32_zeros :
    F32.ofBits 0x00000000 = .finite false 0 ∧ F32.ofBits 0x80000000 = .finite true 0 := by decide
theorem test_f32_half_and_minus_120 :
    F32.ofBits 0x3F000000 = .finite false (mkRat 1 2) ∧ F32.ofBits 0xC2F00000 = .finite true 120 := by decide
theorem test_f32_specials :
    F32.ofBits 0x7F800000 = .infinite false ∧ F32.ofBits 0xFF800000 = .infinite true ∧
    F32.ofBits 0x7FC00000 = .nan ∧ F32.ofBits 0xFFC00001 = .nan ∧ F32.ofBits 0x7F800001 = .nan := by decide
theorem test_f32_smallest_subnormal : F32.ofBits 0x00000001 = .finite false (mkRat 1 (2 ^ 149)) := by decide
theorem test_power_words :
    powerWord .binary32 50 = 0x42480000 ∧ powerWord .binary32 (-120) = 0xC2F00000 ∧
    powerWord .int32 (-120) = 0xFFFFFF88 := by decide

/-! ### One cycle each, from the spec's vectors -/

/-- Row A5. -/
theorem test_forward_moves : row (withRx State.reset 0x300 (bytes 0x00)) = some (.forward, 25, 25, 0, none) := by decide
/-- Row A6 (E1). -/
theorem test_forward_at_upper_limit :
    row { withRx State.reset 0x300 (bytes 0x00) with upperN := .low } =
      some (.stopped, 25, 0, 0, some ⟨0x000, 2, bytes 0x30 0x01⟩) := by decide
/-- Row A26: a direct reversal, with the other limit active. -/
theorem test_reverse_from_forward :
    row { withRx forwardNode 0x300 (bytes 0x01) with upperN := .low } = some (.reverse, 25, 0, 25, none) := by decide
/-- Row A27. -/
theorem test_reverse_at_lower_limit :
    row { withRx forwardNode 0x300 (bytes 0x01) with lowerN := .low } =
      some (.stopped, 25, 0, 0, some ⟨0x000, 2, bytes 0x30 0x00⟩) := by decide
/-- Row A32. -/
theorem test_stop_at_both_limits :
    row { withRx forwardNode 0x300 (bytes 0x02) with upperN := .low, lowerN := .low } =
      some (.stopped, 25, 0, 0, none) := by decide
/-- Row A18 for an unrecognized opcode: the override fires on the kept mode. -/
theorem test_ignored_opcode_passes_override :
    row { withRx forwardNode 0x300 (bytes 0x03) with upperN := .low } =
      some (.stopped, 25, 0, 0, some ⟨0x000, 2, bytes 0x30 0x01⟩) := by decide
/-- E7 under BINARY32. -/
theorem test_setPower_clamps_binary32 :
    row (withRx (dutyNode .binary32) 0x103 (bytes 0x00 0xC2 0xF0)) = some (.reverse, 80, 0, 80, none) := by decide
/-- Row I9: the exact negation of −2^31. -/
theorem test_setPower_int32_minimum :
    row (withRx (dutyNode .int32) 0x103 (bytes 0x00 0x80)) = some (.reverse, 80, 0, 80, none) := by decide
/-- Program P2, cycle c3: opcode 0x01 in a DUTY build. -/
theorem test_duty_ignores_opcode_1 :
    row (withRx { dutyNode .binary32 with mode := .forward, mag := 50, dutyA := 50 } 0x103 (bytes 0x01 0x42 0xC8)) =
      some (.forward, 50, 50, 0, none) := by decide
/-- E8. -/
theorem test_unaddressed_frame_changes_nothing :
    row (withRx { dutyNode .binary32 with mode := .forward, mag := 50, dutyA := 50 } 0x104 (bytes 0x00 0x42 0xC8)) =
      some (.forward, 50, 50, 0, none) := by decide
/-- The STATUS frame of R73. -/
theorem test_status_emission :
    (stateOf (exec (.statusLimit .lower) State.reset)).map (·.tx) = some (some ⟨0, 2, bytes 0x30 0x00⟩) := by decide
/-- Row V8: no interlock without limit stop. -/
theorem test_no_limit_stop :
    row { withRx State.reset 0x300 (bytes 0x00) with
          build := { Config.observedBuild with limitStop := false }, upperN := .low, lowerN := .low } =
      some (.forward, 25, 25, 0, none) := by decide
/-- Row Z4, and program P4 cycle c0. -/
theorem test_bus_init_failure :
    (haltedNode.selector, haltedNode.nodeAddress, haltedNode.indicator, haltedNode.halted, haltedNode.faultCause) =
      (1, 0x301, .faultBlink, true, .busInitFailure) ∧
    row (withRx haltedNode 0x301 (bytes 0x00)) = some (.stopped, 25, 0, 0, none) := by decide
/-- Row Z3: selector 4 leaves the indicator unset. -/
theorem test_selector_4_leaves_indicator_unset :
    ({ dutyNode .binary32 with dipN := 0b1011 }.powerCycle.selector,
      { dutyNode .binary32 with dipN := 0b1011 }.powerCycle.nodeAddress,
      { dutyNode .binary32 with dipN := 0b1011 }.powerCycle.indicator) = (4, 0x104, .unset) := by decide
/-- A table word placed on the bus is received and run. -/
theorem test_placed_word_runs : row (State.reset.withFetchWord 8 0x00) = some (.forward, 25, 25, 0, none) := by decide
/-- The two-bit patterns of R25. -/
theorem test_mode_codes :
    Mode.ofCode Mode.forward.code = some .forward ∧ Mode.ofCode Mode.reverse.code = some .reverse ∧
    Mode.ofCode 0b11 = none := by decide

/-! ### Witnesses: for each statement with hypotheses, concrete states and operands that meet them -/

/-- The invariant of a moving DUTY node. -/
theorem inv_of_moving_node : State.Inv { dutyNode .binary32 with mode := .forward, mag := 50, dutyA := 50 } :=
  ⟨by decide, by decide, by decide, by decide, by decide, nofun, fun _ => by decide, fun _ => by decide, nofun, nofun⟩

theorem witness_DecodeEncodeAgree :
    (Instr.dirIgnore 0x03).wf = true ∧ (Instr.dirIgnore 0xFF).wf = true ∧ (Instr.dutyIgnore 0x01).wf = true ∧
    (Instr.setPower 0xFFFFFFFF).wf = true ∧ (Instr.statusLimit .lower).wf = true := by decide
theorem witness_EncodeKeepsEveryReadByte : (bytes 0x00 0xFF).d0 = 0x00 := by decide
theorem witness_DirectionOpcodeMap :
    Config.observedBuild.protocol = .direction ∧ (bytes 0x00).d0 = 0x00 ∧ (bytes 0x01).d0 = 0x01 ∧
    (bytes 0x02).d0 = 0x02 ∧ 3 ≤ (bytes 0x03).d0.toNat ∧ 3 ≤ (bytes 0xFF).d0.toNat := by decide
theorem witness_DutyOpcodeMap :
    (dutyBuild .int32).protocol = .duty ∧ (bytes 0x00).d0 = 0x00 ∧ 1 ≤ (bytes 0x01).d0.toNat ∧
    1 ≤ (bytes 0xFF).d0.toNat := by decide
/-- The least and the greatest exponent of a normal value, a subnormal, a zero, an infinity, a NaN and a finite value. -/
theorem witness_Binary32ValueIsTheDatum :
    (0x00800000 : Word32).toNat / 2 ^ 23 % 2 ^ 8 = 1 ∧ (0x7F7FFFFF : Word32).toNat / 2 ^ 23 % 2 ^ 8 = 254 ∧
    ((0x80000001 : Word32).toNat / 2 ^ 23 % 2 ^ 8 = 0 ∧ (0x80000001 : Word32).toNat % 2 ^ 23 ≠ 0) ∧
    ((0x80000000 : Word32).toNat / 2 ^ 23 % 2 ^ 8 = 0 ∧ (0x80000000 : Word32).toNat % 2 ^ 23 = 0) ∧
    ((0xFF800000 : Word32).toNat / 2 ^ 23 % 2 ^ 8 = 255 ∧ (0xFF800000 : Word32).toNat % 2 ^ 23 = 0) ∧
    ((0x7F800001 : Word32).toNat / 2 ^ 23 % 2 ^ 8 = 255 ∧ (0x7F800001 : Word32).toNat % 2 ^ 23 ≠ 0) ∧
    F32.ofBits 0xC2F00000 = .finite true 120 := by decide
theorem witness_PowerNotationRoundTrip :
    isBinary32 120 = true ∧ isBinary32 (mkRat 1 (2 ^ 149)) = true ∧ -2 ^ 31 ≤ (-2147483648 : Int) ∧
    (2147483647 : Int) ≤ 2 ^ 31 - 1 := by decide
/-- A ceiling of 0, a finite value at the ceiling, both infinities, and the INT32 minimum beyond it. -/
theorem witness_OneCeilingBoundsBothDirections :
    (0 : Mag) ≤ 0 ∧ (0 : Mag) ≤ 120 ∧ F32.ofBits 0xC2F00000 = .finite true 120 ∧ (120 : Mag) ≤ 120 ∧
    F32.ofBits 0x7F800000 = .infinite false ∧ F32.ofBits 0xFF800000 = .infinite true ∧
    (120 : Mag) ≤ |((-2147483648 : Int) : Rat)| :=
  ⟨by decide, by decide, by decide, by decide, by decide, by decide, by norm_num⟩
/-- Addressed and unaddressed pairs, in both protocols, that differ in unread bytes only. -/
theorem witness_UnreadBytesDoNotChangeDecode :
    let f : Frame := ⟨0x103, 1, ⟨0x00, 1, 2, 3, 4, 5, 6, 7⟩⟩
    let g : Frame := ⟨0x103, 8, ⟨0x00, 1, 2, 3, 4, 9, 9, 9⟩⟩
    f ≠ g ∧ f.id = g.id ∧ f.id = 0x103 ∧ f.data.d0 = g.data.d0 ∧ (dutyBuild .binary32).protocol = .duty ∧
      f.data.d1 = g.data.d1 ∧ f.data.d2 = g.data.d2 ∧ f.data.d3 = g.data.d3 ∧ f.data.d4 = g.data.d4 := by decide
theorem witness_UnreadBytesDoNotChangeStep :
    let f : Frame := ⟨0x300, 1, ⟨0x01, 1, 2, 3, 4, 5, 6, 7⟩⟩
    let g : Frame := ⟨0x300, 8, ⟨0x01, 0, 0, 0, 0, 0, 0, 0⟩⟩
    f ≠ g ∧ f.id = g.id ∧ f.id = State.reset.nodeAddress ∧ f.data.d0 = g.data.d0 ∧
      State.reset.build.protocol ≠ .duty := by decide
/-- For ForwardResult, ReverseResult, StopResult, IgnoredOpcodeResult and StatusLimitResult. -/
theorem witness_running_node : State.reset.halted = false ∧ forwardNode.halted = false := by decide
/-- A NaN, both infinities, two nonzero values and both zeros. -/
theorem witness_SetPowerBinary32Result :
    (dutyNode .binary32).halted = false ∧ (dutyNode .binary32).build.powerEncoding = .binary32 ∧
    F32.ofBits 0x7FC00000 = .nan ∧ F32.ofBits 0x7F800000 = .infinite false ∧ F32.ofBits 0xFF800000 = .infinite true ∧
    F32.ofBits 0xC2F00000 = .finite true 120 ∧ (120 : Mag) ≠ 0 ∧ F32.ofBits 0x3F000000 = .finite false (mkRat 1 2) ∧
    F32.ofBits 0x80000000 = .finite true 0 ∧ F32.ofBits 0x00000000 = .finite false 0 := by decide
theorem witness_SetPowerInt32Result :
    (dutyNode .int32).halted = false ∧ (dutyNode .int32).build.powerEncoding = .int32 ∧
    0 < (0x00000001 : Word32).toInt ∧ 0 < (0x7FFFFFFF : Word32).toInt ∧ (0x80000000 : Word32).toInt < 0 ∧
    (0xFFFFFFFF : Word32).toInt < 0 ∧ (0x00000000 : Word32).toInt = 0 := by decide
theorem witness_ExecFrame :
    exec .reverse forwardNode = .next { forwardNode with mode := .reverse, dutyA := 0, dutyB := 25, tx := none } ∧
    (Instr.statusLimit .upper).format = .status ∧
    exec (.statusLimit .upper) forwardNode = .next { forwardNode with tx := some ⟨0, 2, bytes 0x30 0x01⟩ } :=
  ⟨rfl, rfl, rfl⟩
/-- Both clauses: a command's exec, and steps without a command, with an empty script and with a scripted cycle. -/
theorem witness_PinsUnreadWithoutLimitStop :
    let s : State := { forwardNode with build := { Config.observedBuild with limitStop := false } }
    let s' : State := { s with script := [⟨none, .low, .low⟩] }
    s.build.limitStop = false ∧ Instr.stop.format ≠ .status ∧
      exec .stop s = .next { s with mode := .stopped, dutyA := 0, tx := none } ∧ step s = .next s ∧
      step s' = .next { s with upperN := .low, lowerN := .low } :=
  ⟨rfl, by decide, rfl, rfl, rfl⟩
theorem witness_StepRunsTheDecodedInstruction :
    let s := withRx State.reset 0x300 (bytes 0x00)
    s.halted = false ∧ s.rx = some ⟨0x300, 8, bytes 0x00⟩ ∧ (0x300 : Ident) = s.nodeAddress ∧
      decodeAs s.build.protocol.format (bytes 0x00) = .ok .forward ∧
      exec .forward s = .next { s with mode := .forward, dutyA := 25 } :=
  ⟨rfl, rfl, rfl, rfl, rfl⟩
theorem witness_PlacedWordRuns :
    State.reset.halted = false ∧ tablePayload 8 0x02 = some (bytes 0x02) ∧
    tablePayload 64 (2 ^ 64 - 1) = some ⟨0xFF, 0xFF, 0xFF, 0xFF, 0xFF, 0xFF, 0xFF, 0xFF⟩ := by decide
theorem witness_CycleWithoutInstruction :
    State.reset.halted = false ∧ State.reset.rx = none ∧ (withRx State.reset 0x301 (bytes 0)).halted = false ∧
    (withRx State.reset 0x301 (bytes 0)).rx = some ⟨0x301, 8, bytes 0⟩ ∧
    (0x301 : Ident) ≠ (withRx State.reset 0x301 (bytes 0)).nodeAddress := by decide
theorem witness_NoCommandNoChange :
    let s : State := { dutyNode .binary32 with mode := .forward, mag := 50, dutyA := 50 }
    s.Inv ∧ s.halted = false ∧ s.command = none ∧ s.limitFires s.mode = none ∧ step s = .next s :=
  ⟨inv_of_moving_node, rfl, rfl, rfl, rfl⟩
/-- For StepFrame, BootInputsUnreadAfterReset and the first clause of InputsMoveOn. -/
theorem witness_step_answers :
    step forwardNode = .next forwardNode ∧ forwardNode.script = [] := ⟨rfl, rfl⟩
theorem witness_InputsMoveOn :
    let i : CycleInput := ⟨none, .low, .high⟩
    step { forwardNode with script := [i] } = .next { forwardNode with upperN := .low } ∧
      ({ forwardNode with script := [i] } : State).script = i :: [] := ⟨rfl, rfl⟩
theorem witness_InterlockHoldsEveryCycle :
    let s : State := { forwardNode with upperN := .low }
    s.build.limitStop = true ∧ s.halted = false ∧ s.upperN = .low ∧
      step s = .next { s with mode := .stopped, dutyA := 0, tx := some ⟨0, 2, bytes 0x30 0x01⟩ } :=
  ⟨rfl, rfl, rfl, rfl⟩
theorem witness_EventExactlyWhenTheLimitFires :
    let s : State := { forwardNode with mode := .reverse, lowerN := .low }
    s.halted = false ∧
      step s = .next { s with mode := .stopped, dutyA := 0, dutyB := 0, tx := some ⟨0, 2, bytes 0x30 0x00⟩ } :=
  ⟨rfl, rfl⟩
theorem witness_EveryFrameSentIsAStatusFrame :
    let s : State := { forwardNode with upperN := .low }
    let t : State := { s with mode := .stopped, dutyA := 0, tx := some ⟨0, 2, bytes 0x30 0x01⟩ }
    step s = .next t ∧ t.tx = some ⟨0, 2, bytes 0x30 0x01⟩ := ⟨rfl, rfl⟩
theorem witness_StopIsIdempotent :
    let c : CycleInput := ⟨some ⟨0x300, 1, bytes 0x02⟩, .high, .high⟩
    let s : State := { withRx forwardNode 0x300 (bytes 0x02) with script := [c] }
    let t : State := { s with mode := .stopped, dutyA := 0, rx := c.rx, script := [] }
    s.halted = false ∧ s.command = some (.setDirection .stop) ∧ step s = .next t ∧
      t.command = some (.setDirection .stop) ∧ step t = .next { t with rx := none } :=
  ⟨rfl, rfl, rfl, rfl, rfl⟩
/-- The other two disjuncts of StopIsIdempotent. -/
theorem witness_StopIsIdempotent_zero_power :
    (withRx (dutyNode .int32) 0x103 (bytes 0x00)).command = some (.setPower (.int32 0)) ∧
    (withRx (dutyNode .binary32) 0x103 (bytes 0x00 0x80)).command = some (.setPower (.binary32 (.finite true 0))) := by
  decide
theorem witness_StoppedNodeStaysSilent :
    let s : State := { State.reset with upperN := .low, lowerN := .low }
    s.halted = false ∧ s.mode = .stopped ∧ NoCommandFor 2 s :=
  ⟨rfl, rfl, rfl, fun t h => by cases h; exact ⟨rfl, fun _ _ => trivial⟩⟩
/-- Forward with the lower limit active (row A19) and Reverse with the upper active (row A34). -/
theorem witness_MotionPersistsWithoutCommand :
    let s : State := { forwardNode with lowerN := .low }
    let r : State := { forwardNode with mode := .reverse, dutyA := 0, dutyB := 25, upperN := .low }
    s.halted = false ∧ NoCommandFor 2 s ∧ s.mode = .forward ∧ (s.upperN = .high ∧ ∀ i ∈ s.script, i.upperN = .high) ∧
      Host.Core.run Sys2Proof.core 2 s = .next s ∧
    r.halted = false ∧ NoCommandFor 2 r ∧ r.mode = .reverse ∧ (r.lowerN = .high ∧ ∀ i ∈ r.script, i.lowerN = .high) ∧
      Host.Core.run Sys2Proof.core 2 r = .next r :=
  ⟨rfl, ⟨rfl, fun t h => by cases h; exact ⟨rfl, fun _ _ => trivial⟩⟩, rfl, ⟨rfl, nofun⟩, rfl,
    rfl, ⟨rfl, fun t h => by cases h; exact ⟨rfl, fun _ _ => trivial⟩⟩, rfl, ⟨rfl, nofun⟩, rfl⟩
/-- The other disjunct of MotionPersistsWithoutCommand. -/
theorem witness_MotionPersistsWithoutLimitStop :
    let s : State := { forwardNode with build := { Config.observedBuild with limitStop := false }, upperN := .low }
    s.halted = false ∧ s.build.limitStop = false ∧ NoCommandFor 1 s ∧ Host.Core.run Sys2Proof.core 1 s = .next s :=
  ⟨rfl, rfl, ⟨rfl, fun _ _ => trivial⟩, rfl⟩
/-- For EveryStepKeepsTheInvariant and AtMostOneLegIsDriven. -/
theorem witness_EveryStepKeepsTheInvariant :
    let s : State := { dutyNode .binary32 with mode := .forward, mag := 50, dutyA := 50 }
    s.Inv ∧ step s = .next s ∧ s.build.protocol = .duty := ⟨inv_of_moving_node, rfl, rfl⟩
/-- For AtMostOneLegIsDriven in a DIRECTION build. -/
theorem witness_AtMostOneLegIsDriven :
    forwardNode.Inv ∧ step forwardNode = .next forwardNode ∧ forwardNode.build.protocol = .direction :=
  ⟨⟨by decide, by decide, by decide, by decide, by decide, fun _ => rfl, nofun, nofun, nofun, nofun⟩, rfl, rfl⟩
theorem witness_PowerCycleMeetsTheInvariant : (dutyNode .int32).build.wf = true := by decide
theorem witness_MagnitudeWhileStoppedIsNeverSeen :
    (dutyNode .binary32).build.protocol = .duty ∧ (dutyNode .binary32).mode = .stopped := by decide
theorem witness_DirectionMagnitudeIsConstant :
    forwardNode.build.protocol = .direction ∧ step forwardNode = .next forwardNode := ⟨rfl, rfl⟩
/-- Selectors 3 and 4, a failed bus controller, and both protocols. -/
theorem witness_PowerCycleLeavesResetValues :
    (dutyNode .binary32).busInitOk = true ∧ (dutyNode .binary32).powerCycle.selector.toNat = (3 : Fin 4).val ∧
    4 ≤ ({ dutyNode .binary32 with dipN := 0b1011 } : State).powerCycle.selector.toNat ∧
    ({ State.reset with busInitOk := false } : State).busInitOk = false ∧
    State.reset.build.protocol = .direction ∧ (dutyNode .binary32).build.protocol = .duty := by decide
theorem witness_AddressIsBasePlusSelector :
    ({ State.reset with build := { Config.observedBuild with baseAddress := 0x7F0 } } : State).build.baseAddress ≤ 0x7F0 := by
  decide
theorem witness_BusInitFailureHaltsTheNode : ({ State.reset with busInitOk := false } : State).busInitOk = false := by decide
theorem witness_PowerCycleForgetsEveryRegister :
    forwardNode.build = State.reset.build ∧ forwardNode.dipN = State.reset.dipN ∧
    forwardNode.busInitOk = State.reset.busInitOk ∧ forwardNode ≠ State.reset := by decide
/-- For HaltedNodeRunsNothing and HaltedForEver. -/
theorem witness_HaltedForEver :
    haltedNode.halted = true ∧ Host.Core.run Sys2Proof.core 2 haltedNode = .next haltedNode ∧
    State.reset.busInitOk = true := ⟨rfl, rfl, rfl⟩

end Sys2Proof.Tests
end

section
/-! PROOFS. The binary32 format of R78 as arithmetic: a finite datum is a count of units `2^(−149)`, its fields are read
from the count and back, and the check of R6 accepts the counts the fields can hold. -/

namespace Sys2Proof.Machine

/-- How many units `2^(−149)` the finite datum with exponent field `e` and fraction field `f` is worth (R78). -/
def unitCount (e f : Nat) : Nat := if e = 0 then f else (2 ^ 23 + f) * 2 ^ (e - 1)

/-- The count of units `2^(−149)` that `isBinary32` and `binary32Word` take from a rational: exact when the denominator
divides `2^149` (`mkRat_unitsOf`). -/
def unitsOf (q : Mag) : Nat := q.num.toNat * (2 ^ 149 / q.den)

/-- The exponent field of `n` units, as `binary32Word` chooses it. -/
def unitsExponent (n : Nat) : Nat := if n < 2 ^ 23 then 0 else n.log2 - 23 + 1

/-- The fraction field of `n` units, as `binary32Word` chooses it. -/
def unitsFraction (n : Nat) : Nat := if n < 2 ^ 23 then n else n / 2 ^ (n.log2 - 23) - 2 ^ 23

/-- The word with the three fields of R78. -/
def packF32 (negative : Bool) (e f : Nat) : Word32 :=
  BitVec.ofNat 32 ((if negative then 2 ^ 31 else 0) + (e * 2 ^ 23 + f))

/-! The fields of a word. -/

theorem exponentField_eq (w : Word32) : exponentField w = w.toNat / 2 ^ 23 % 2 ^ 8 := by
  simp [exponentField, Nat.shiftRight_eq_div_pow]

theorem fractionField_eq (w : Word32) : fractionField w = w.toNat % 2 ^ 23 := by
  simp [fractionField]

theorem signBit_eq (w : Word32) : signBit w = decide (2 ^ 31 ≤ w.toNat) := by
  have := w.isLt
  rw [signBit, BitVec.getLsbD, Nat.testBit_eq_decide_div_mod_eq, decide_eq_decide]
  omega

theorem exponentField_lt (w : Word32) : exponentField w < 256 := by
  rw [exponentField_eq]; omega

theorem fractionField_lt (w : Word32) : fractionField w < 2 ^ 23 := by
  rw [fractionField_eq]; omega

theorem packF32_toNat (negative : Bool) {e f : Nat} (he : e < 256) (hf : f < 2 ^ 23) :
    (packF32 negative e f).toNat = (if negative then 2 ^ 31 else 0) + (e * 2 ^ 23 + f) := by
  rw [packF32, BitVec.toNat_ofNat, Nat.mod_eq_of_lt]
  split <;> omega

theorem signBit_packF32 (negative : Bool) {e f : Nat} (he : e < 256) (hf : f < 2 ^ 23) :
    signBit (packF32 negative e f) = negative := by
  rw [signBit_eq, packF32_toNat negative he hf]
  cases negative
  · rw [decide_eq_false_iff_not, if_neg Bool.false_ne_true]; omega
  · rw [decide_eq_true_eq, if_pos rfl]; omega

theorem exponentField_packF32 (negative : Bool) {e f : Nat} (he : e < 256) (hf : f < 2 ^ 23) :
    exponentField (packF32 negative e f) = e := by
  rw [exponentField_eq, packF32_toNat negative he hf]
  split <;> omega

theorem fractionField_packF32 (negative : Bool) {e f : Nat} (he : e < 256) (hf : f < 2 ^ 23) :
    fractionField (packF32 negative e f) = f := by
  rw [fractionField_eq, packF32_toNat negative he hf]
  split <;> omega

/-- The finite data, said once: the exponent field is not 255, and the value is the count of units its fields say. -/
theorem F32.ofBits_eq_finite_iff (w : Word32) (neg : Bool) (a : Mag) :
    F32.ofBits w = .finite neg a ↔
      exponentField w ≠ 255 ∧ signBit w = neg ∧
        mkRat (unitCount (exponentField w) (fractionField w)) (2 ^ 149) = a := by
  unfold F32.ofBits unitCount
  split
  case isTrue he => split <;> simp [he]
  case isFalse he =>
    split
    case isTrue h0 => simp [h0]
    case isFalse h0 => simp [he]

/-! Counts of units and rationals. -/

/-- `unitsOf` is exact on a rational whose denominator divides `2^149`. -/
theorem mkRat_unitsOf {q : Mag} (hq : 0 ≤ q) (hden : q.den ∣ 2 ^ 149) : mkRat (unitsOf q) (2 ^ 149) = q := by
  obtain ⟨c, hc⟩ := hden
  have hcpos : c ≠ 0 := by rintro rfl; simp at hc
  have hquot : 2 ^ 149 / q.den = c := by rw [hc, Nat.mul_div_cancel_left c q.den_pos]
  have hnum : (q.num.toNat : Int) = q.num := Int.toNat_of_nonneg (Rat.num_nonneg.mpr hq)
  rw [unitsOf, hquot, hc, Nat.cast_mul, hnum, Rat.mkRat_mul_right hcpos, Rat.mkRat_self]

/-- The denominator of a count of units divides `2^149`. -/
theorem den_mkRat_units_dvd (n : Nat) : (mkRat n (2 ^ 149)).den ∣ 2 ^ 149 := by
  rw [Rat.den_mkRat, if_neg (by decide)]
  exact Nat.div_dvd_of_dvd (Nat.gcd_dvd_left _ _)

theorem mkRat_units_nonneg (n : Nat) : 0 ≤ mkRat n (2 ^ 149) := by
  rw [Rat.mkRat_eq_div]; positivity

theorem mkRat_units_injective {m n : Nat} (h : mkRat m (2 ^ 149) = mkRat n (2 ^ 149)) : m = n := by
  rw [Rat.mkRat_eq_iff (by decide) (by decide)] at h
  omega

/-- A rational's count of units is read back from the rational. -/
theorem unitsOf_mkRat (n : Nat) : unitsOf (mkRat n (2 ^ 149)) = n :=
  mkRat_units_injective (mkRat_unitsOf (mkRat_units_nonneg n) (den_mkRat_units_dvd n))

/-- The check of R6 as arithmetic on the count of units: below `2^128`, and at most 24 significant bits. -/
theorem isBinary32_iff (q : Mag) :
    isBinary32 q = true ↔
      ∃ n : Nat, mkRat n (2 ^ 149) = q ∧ n < 2 ^ 128 * 2 ^ 149 ∧ 2 ^ (n.log2 - 23) ∣ n := by
  have hcheck : isBinary32 q = true ↔ 0 ≤ q ∧ q.den ∣ 2 ^ 149 ∧
      unitsOf q < 2 ^ 128 * 2 ^ 149 ∧ 2 ^ ((unitsOf q).log2 - 23) ∣ unitsOf q := by
    rw [← Nat.div_lt_iff_lt_mul (by decide), Nat.dvd_iff_mod_eq_zero, Nat.dvd_iff_mod_eq_zero]
    simp only [isBinary32, unitsOf, Bool.and_eq_true, decide_eq_true_eq, and_assoc]
  rw [hcheck]
  constructor
  · rintro ⟨hq, hden, hbits⟩
    exact ⟨unitsOf q, mkRat_unitsOf hq hden, hbits⟩
  · rintro ⟨n, rfl, hbits⟩
    rw [unitsOf_mkRat]
    exact ⟨mkRat_units_nonneg n, den_mkRat_units_dvd n, hbits⟩

/-! Counts of units and fields. -/

/-- The fields of a finite datum hold less than `2^128`. -/
theorem unitCount_lt {e f : Nat} (he : e < 255) (hf : f < 2 ^ 23) : unitCount e f < 2 ^ 128 * 2 ^ 149 := by
  unfold unitCount
  split
  case isTrue => omega
  case isFalse =>
    calc (2 ^ 23 + f) * 2 ^ (e - 1)
        < 2 ^ 24 * 2 ^ (e - 1) := Nat.mul_lt_mul_of_pos_right (by omega) (Nat.two_pow_pos _)
      _ ≤ 2 ^ 24 * 2 ^ 253 := Nat.mul_le_mul_left _ (Nat.pow_le_pow_right (by omega) (by omega))
      _ = 2 ^ 128 * 2 ^ 149 := by decide

/-- The fields of a finite datum hold at most 24 significant bits. -/
theorem two_pow_dvd_unitCount {e f : Nat} (hf : f < 2 ^ 23) :
    2 ^ ((unitCount e f).log2 - 23) ∣ unitCount e f := by
  unfold unitCount
  split
  case isTrue =>
    have hlog : f.log2 - 23 = 0 := by
      by_cases h0 : f = 0
      · simp [h0]
      · have := (Nat.log2_lt h0).mpr hf
        omega
    rw [hlog]; exact one_dvd f
  case isFalse =>
    have hlog : ((2 ^ 23 + f) * 2 ^ (e - 1)).log2 < 24 + (e - 1) := by
      rw [Nat.log2_lt (by positivity), pow_add]
      exact Nat.mul_lt_mul_of_pos_right (by omega) (Nat.two_pow_pos _)
    exact (Nat.pow_dvd_pow 2 (by omega)).mul_left _

/-- Above the subnormal range the leading 24 bits of a count lie between `2^23` and `2^24`. -/
theorem leading24_bounds {n : Nat} (hn : 2 ^ 23 ≤ n) :
    2 ^ 23 ≤ n / 2 ^ (n.log2 - 23) ∧ n / 2 ^ (n.log2 - 23) < 2 ^ 24 := by
  have h0 : n ≠ 0 := by omega
  have hlog : 23 ≤ n.log2 := (Nat.le_log2 h0).mpr hn
  rw [Nat.le_div_iff_mul_le (Nat.two_pow_pos _), Nat.div_lt_iff_lt_mul (Nat.two_pow_pos _), ← pow_add, ← pow_add,
    show 23 + (n.log2 - 23) = n.log2 by omega, show 24 + (n.log2 - 23) = n.log2 + 1 by omega]
  exact ⟨Nat.log2_self_le h0, Nat.lt_log2_self⟩

theorem unitsFraction_lt (n : Nat) : unitsFraction n < 2 ^ 23 := by
  unfold unitsFraction
  split
  case isTrue h => exact h
  case isFalse h =>
    obtain ⟨hlo, hhi⟩ := leading24_bounds (not_lt.mp h)
    omega

theorem unitsExponent_lt {n : Nat} (hn : n < 2 ^ 128 * 2 ^ 149) : unitsExponent n < 255 := by
  unfold unitsExponent
  split
  case isTrue => omega
  case isFalse h =>
    have hlog : n.log2 < 128 + 149 := (Nat.log2_lt (by omega)).mpr (lt_of_lt_of_eq hn (Nat.pow_add 2 128 149).symm)
    omega

/-- The fields chosen for a count of at most 24 significant bits give the count back. -/
theorem unitCount_units {n : Nat} (hn : 2 ^ (n.log2 - 23) ∣ n) : unitCount (unitsExponent n) (unitsFraction n) = n := by
  unfold unitsExponent unitsFraction
  split
  case isTrue => rfl
  case isFalse h =>
    obtain ⟨hlo, -⟩ := leading24_bounds (not_lt.mp h)
    rw [unitCount, if_neg (Nat.succ_ne_zero _), Nat.add_sub_cancel, Nat.add_sub_cancel' hlo, Nat.div_mul_cancel hn]

/-- `binary32Word` packs the fields chosen for the rational's count of units. -/
theorem binary32Word_eq_packF32 (negative : Bool) (q : Mag) :
    binary32Word negative q = packF32 negative (unitsExponent (unitsOf q)) (unitsFraction (unitsOf q)) := by
  unfold binary32Word packF32 unitsExponent unitsFraction unitsOf
  dsimp only
  by_cases h : q.num.toNat * (2 ^ 149 / q.den) < 2 ^ 23
  · rw [if_pos h, if_pos h, if_pos h, Nat.zero_mul, Nat.zero_add]
  · rw [if_neg h, if_neg h, if_neg h]

/-- R78 backwards and forwards: the word of an encodable absolute value is read back as that value, of either sign. -/
theorem F32.ofBits_binary32Word (negative : Bool) {q : Mag} (hq : isBinary32 q = true) :
    F32.ofBits (binary32Word negative q) = .finite negative q := by
  obtain ⟨n, rfl, hlt, hdvd⟩ := (isBinary32_iff q).mp hq
  have he := unitsExponent_lt hlt
  have hf := unitsFraction_lt n
  rw [binary32Word_eq_packF32, unitsOf_mkRat, F32.ofBits_eq_finite_iff, signBit_packF32 _ (by omega) hf,
    exponentField_packF32 _ (by omega) hf, fractionField_packF32 _ (by omega) hf, unitCount_units hdvd]
  exact ⟨by omega, rfl, rfl⟩

/-- The absolute value of every finite datum passes the check of R6. -/
theorem isBinary32_of_ofBits {w : Word32} {neg : Bool} {a : Mag} (h : F32.ofBits w = .finite neg a) :
    isBinary32 a = true := by
  obtain ⟨he, -, ha⟩ := (F32.ofBits_eq_finite_iff w neg a).mp h
  have hexp : exponentField w < 255 := by
    have := exponentField_lt w
    omega
  have hf := fractionField_lt w
  exact (isBinary32_iff a).mpr ⟨_, ha, unitCount_lt hexp hf, two_pow_dvd_unitCount hf⟩

/-- Settles O9: an accepted value is read back from its own word, and every finite datum is a count of units that its
fields bound. -/
theorem binary32CheckIsExact : Obligations.Binary32CheckIsExact := by
  intro q
  constructor
  · intro hq
    exact ⟨binary32Word false q, F32.ofBits_binary32Word false hq⟩
  · rintro ⟨w, hw⟩
    exact isBinary32_of_ofBits hw

end Sys2Proof.Machine
end

section
/-! PROOFS. Power-on register by register (R36, R250), the invariant of the node from power-on through every step, and the
reset-time ports a running node does not read. -/

namespace Sys2Proof.Machine

/-! ### Power-on -/

/-- SET_INDICATOR (R104) on the indicator itself. -/
theorem State.setIndicator_indicator (s : State) :
    s.setIndicator.indicator =
      if h : s.selector.toNat < 4 then .palette ⟨s.selector.toNat, h⟩ else s.indicator := by
  unfold State.setIndicator; split <;> rfl

theorem State.powerCycle_of_ok {s : State} (h : s.busInitOk = true) :
    s.powerCycle = ({ s.resolve with indicator := .unset }.setIndicator).clearMotor := by
  simp [State.powerCycle, h]

theorem State.powerCycle_of_failure {s : State} (h : s.busInitOk = false) :
    s.powerCycle =
      (({ s.resolve with indicator := .unset }.setIndicator).clearMotor).raiseFault .busInitFailure := by
  simp [State.powerCycle, h]

/-! The registers after power-on: all but `halted`, `faultCause` and `indicator` come out alike with either outcome of the
bus controller. -/

@[simp] theorem State.powerCycle_build (s : State) : s.powerCycle.build = s.build := by
  cases h : s.busInitOk <;> simp [powerCycle_of_ok, powerCycle_of_failure, h]
@[simp] theorem State.powerCycle_selector (s : State) : s.powerCycle.selector = composeSelector s.dipN := by
  cases h : s.busInitOk <;> simp [powerCycle_of_ok, powerCycle_of_failure, h]
@[simp] theorem State.powerCycle_nodeAddress (s : State) :
    s.powerCycle.nodeAddress = resolveAddress s.build.baseAddress (composeSelector s.dipN) := by
  cases h : s.busInitOk <;> simp [powerCycle_of_ok, powerCycle_of_failure, h]
@[simp] theorem State.powerCycle_indicator (s : State) :
    s.powerCycle.indicator = indicatorAfterReset (!s.busInitOk) (composeSelector s.dipN) := by
  cases h : s.busInitOk <;>
    simp [powerCycle_of_ok, powerCycle_of_failure, h, State.setIndicator_indicator, indicatorAfterReset]
@[simp] theorem State.powerCycle_mode (s : State) : s.powerCycle.mode = .stopped := by
  cases h : s.busInitOk <;> simp [powerCycle_of_ok, powerCycle_of_failure, h]
@[simp] theorem State.powerCycle_mag (s : State) : s.powerCycle.mag = resetMag s.build := by
  cases h : s.busInitOk <;> simp [powerCycle_of_ok, powerCycle_of_failure, h]
@[simp] theorem State.powerCycle_dutyA (s : State) : s.powerCycle.dutyA = 0 := by
  cases h : s.busInitOk <;> simp [powerCycle_of_ok, powerCycle_of_failure, h]
@[simp] theorem State.powerCycle_dutyB (s : State) : s.powerCycle.dutyB = 0 := by
  cases h : s.busInitOk <;> simp [powerCycle_of_ok, powerCycle_of_failure, h]
@[simp] theorem State.powerCycle_halted (s : State) : s.powerCycle.halted = !s.busInitOk := by
  cases h : s.busInitOk <;> simp [powerCycle_of_ok, powerCycle_of_failure, h]
@[simp] theorem State.powerCycle_faultCause (s : State) :
    s.powerCycle.faultCause = if s.busInitOk then .none else .busInitFailure := by
  cases h : s.busInitOk <;> simp [powerCycle_of_ok, powerCycle_of_failure, h]
@[simp] theorem State.powerCycle_tx (s : State) : s.powerCycle.tx = none := by
  cases h : s.busInitOk <;> simp [powerCycle_of_ok, powerCycle_of_failure, h]

/-! What the parts of a power-on compute. -/

theorem indicatorAfterReset_halted (selector : BitVec 4) : indicatorAfterReset true selector = .faultBlink := rfl

theorem indicatorAfterReset_palette {selector : BitVec 4} {k : Fin 4} (h : selector.toNat = k.val) :
    indicatorAfterReset false selector = .palette k := by
  have hlt : selector.toNat < 4 := h ▸ k.isLt
  simp [indicatorAfterReset, h]

theorem indicatorAfterReset_unset {selector : BitVec 4} (h : 4 ≤ selector.toNat) :
    indicatorAfterReset false selector = .unset := by
  simp [indicatorAfterReset, h]

theorem resetMag_direction {b : Build} (h : b.protocol = .direction) : resetMag b = b.directionDuty := by
  simp [resetMag, h]

theorem resetMag_duty {b : Build} (h : b.protocol = .duty) : resetMag b = 0 := by
  simp [resetMag, h]

/-- The address sum never wraps: the base of a well-formed build leaves room for every selector (R102, R6). -/
theorem resolveAddress_toNat {base : Nat} (h : base ≤ 0x7F0) (selector : BitVec 4) :
    (resolveAddress base selector).toNat = base + selector.toNat := by
  have hsel := selector.isLt
  rw [resolveAddress, BitVec.toNat_ofNat, Nat.mod_eq_of_lt (by omega)]

/-- Settles O46, register by register. -/
theorem powerCycleLeavesResetValues : Obligations.PowerCycleLeavesResetValues := by
  rintro s t rfl
  rw [State.powerCycle_indicator, State.powerCycle_selector]
  refine ⟨rfl, by simp [resolveAddress], fun hbus => ?_, fun k hbus hk => ?_, fun hbus hk => ?_, by simp,
    fun hp => by simp [resetMag_direction hp], fun hp => by simp [resetMag_duty hp], by simp, by simp, by simp,
    fun hbus => by simp [hbus], fun hbus => by simp [hbus], by simp⟩
  · rw [hbus]; exact indicatorAfterReset_halted _
  · rw [hbus]; exact indicatorAfterReset_palette hk
  · rw [hbus]; exact indicatorAfterReset_unset hk

/-- Settles O51, by evaluating the power-on of the one state. -/
theorem resetIsAPowerOn : Obligations.ResetIsAPowerOn := by
  unfold Obligations.ResetIsAPowerOn
  decide

/-! ### The magnitude a build admits -/

/-- The domains of R6, taken apart. -/
theorem build_wf_iff (b : Build) :
    b.wf = true ↔ b.baseAddress ≤ 0x7F0 ∧ (0 ≤ b.maxDuty ∧ b.maxDuty ≤ 100) ∧
      (0 ≤ b.directionDuty ∧ b.directionDuty ≤ 100) ∧ ceilingFits b.powerEncoding b.maxDuty = true := by
  simp only [Build.wf, dutyInRange, Bool.and_eq_true, decide_eq_true_eq, and_assoc]

/-- What R26 and R164 say of the magnitude register, by the protocol of the build: the three magnitude clauses of
`State.Inv` (`State.Inv.magFits`) as a predicate on the value. -/
structure MagFits (b : Build) (g : Mag) : Prop where
  direction : b.protocol = .direction → g = b.directionDuty
  range     : b.protocol = .duty → 0 ≤ g ∧ g ≤ b.maxDuty
  type      : b.protocol = .duty → ceilingFits b.powerEncoding g = true

theorem State.Inv.magFits {s : State} (h : s.Inv) : MagFits s.build s.mag :=
  ⟨h.direction_mag, h.duty_mag, h.duty_mag_type⟩

/-- A DIRECTION build admits one magnitude only (R164). -/
theorem magFits_directionDuty {b : Build} (hp : b.protocol = .direction) : MagFits b b.directionDuty :=
  ⟨fun _ => rfl, fun hd => absurd (hp.symm.trans hd) nofun, fun hd => absurd (hp.symm.trans hd) nofun⟩

/-- A DUTY build asks for the range and the type only. -/
theorem magFits_of_duty {b : Build} {g : Mag} (hp : b.protocol = .duty) (h0 : 0 ≤ g) (hmax : g ≤ b.maxDuty)
    (htype : ceilingFits b.powerEncoding g = true) : MagFits b g :=
  ⟨fun hd => absurd (hp.symm.trans hd) nofun, fun _ => ⟨h0, hmax⟩, fun _ => htype⟩

theorem ceilingFits_zero (enc : PowerEncoding) : ceilingFits enc 0 = true := by
  cases enc <;> decide

theorem ceilingFits_int32_intCast (v : Int) : ceilingFits .int32 (v : Rat) = true := by
  simp [ceilingFits]

/-- In a well-formed DUTY build zero is an admitted magnitude. -/
theorem magFits_zero {b : Build} (hb : b.wf = true) (hp : b.protocol = .duty) : MagFits b 0 := by
  obtain ⟨-, ⟨hmax0, -⟩, -, -⟩ := (build_wf_iff b).mp hb
  exact magFits_of_duty hp le_rfl hmax0 (ceilingFits_zero _)

theorem resetMag_magFits {b : Build} (hb : b.wf = true) : MagFits b (resetMag b) := by
  cases hp : b.protocol with
  | direction => rw [resetMag_direction hp]; exact magFits_directionDuty hp
  | duty => rw [resetMag_duty hp]; exact magFits_zero hb hp

/-- The clamp of R156 and R157 gives an admitted magnitude, whatever non-negative value of the encoding it is given. -/
theorem magFits_min_maxDuty {b : Build} {g : Mag} (hb : b.wf = true) (hp : b.protocol = .duty) (h0 : 0 ≤ g)
    (htype : ceilingFits b.powerEncoding g = true) : MagFits b (min g b.maxDuty) := by
  obtain ⟨-, ⟨hmax0, -⟩, -, hmaxType⟩ := (build_wf_iff b).mp hb
  refine magFits_of_duty hp (le_min h0 hmax0) (min_le_right _ _) ?_
  rcases min_choice g b.maxDuty with h | h <;> rw [h]
  · exact htype
  · exact hmaxType

/-- The ceiling itself is the clamp of an infinity (R156). -/
theorem magFits_maxDuty {b : Build} (hb : b.wf = true) (hp : b.protocol = .duty) : MagFits b b.maxDuty := by
  obtain ⟨-, ⟨hmax0, -⟩, -, hmaxType⟩ := (build_wf_iff b).mp hb
  exact magFits_of_duty hp hmax0 le_rfl hmaxType

theorem applyPowerF32_magFits {b : Build} (hb : b.wf = true) (hp : b.protocol = .duty)
    (henc : b.powerEncoding = .binary32) (w : Word32) :
    MagFits b (applyPowerF32 b.maxDuty (F32.ofBits w)).mag := by
  cases hw : F32.ofBits w with
  | nan => rw [applyPowerF32_nan]; exact magFits_zero hb hp
  | infinite neg => rw [applyPowerF32_infinite]; exact magFits_maxDuty hb hp
  | finite neg a =>
    rw [applyPowerF32_finite]
    split
    · exact magFits_zero hb hp
    · rw [minMag_eq_min]
      have htype : ceilingFits b.powerEncoding a = true := by rw [henc]; exact isBinary32_of_ofBits hw
      exact magFits_min_maxDuty hb hp (F32.ofBits_absValue_nonneg hw) htype

theorem applyPowerI32_magFits {b : Build} (hb : b.wf = true) (hp : b.protocol = .duty)
    (henc : b.powerEncoding = .int32) (v : Int) : MagFits b (applyPowerI32 b.maxDuty v).mag := by
  have htype (u : Int) : ceilingFits b.powerEncoding (u : Rat) = true := by
    rw [henc]; exact ceilingFits_int32_intCast u
  rcases applyPowerI32_cases b.maxDuty v with ⟨hv, h⟩ | ⟨hv, h⟩ | ⟨-, h⟩ <;> rw [h]
  · exact magFits_min_maxDuty hb hp (Int.cast_nonneg hv.le) (htype v)
  · rw [← Int.cast_neg]
    exact magFits_min_maxDuty hb hp (Int.cast_nonneg (by omega)) (htype (-v))
  · exact magFits_zero hb hp

/-- SetDirection keeps the magnitude (R153 to R155). -/
theorem commandPhase_setDirection_mag (hi : Mag) (m : Motor) (d : Direction) :
    (commandPhase hi m (some (.setDirection d))).mag = m.mag := by
  cases d <;> rfl

/-- Every command a build's decoder can yield leaves a magnitude the build admits. -/
theorem commandPhase_magFits {b : Build} {m : Motor} {cmd : Option Command} (hb : b.wf = true)
    (hm : MagFits b m.mag) (hcmd : CommandOf b cmd) : MagFits b (commandPhase b.maxDuty m cmd).mag := by
  rcases hcmd with rfl | ⟨-, d, rfl⟩ | ⟨hp, w, rfl⟩
  · exact hm
  · rw [commandPhase_setDirection_mag]; exact hm
  · cases henc : b.powerEncoding with
    | binary32 => exact applyPowerF32_magFits hb hp henc w
    | int32 => exact applyPowerI32_magFits hb hp henc w.toInt

/-- The override keeps the magnitude (D9). -/
theorem overridePhase_mag (m : Motor) (u l : Bool) : (overridePhase m u l).1.mag = m.mag := by
  rcases overridePhase_cases m u l with ⟨-, -, h⟩ | ⟨-, -, h⟩ | ⟨-, -, h⟩ <;> rw [h]

/-- An event comes only from a limit that reads active, and leaves the mode Stopped (R158, R159, R161). -/
theorem overridePhase_event {m : Motor} {u l : Bool} {limit : Limit} (h : (overridePhase m u l).2 = some limit) :
    (u = true ∨ l = true) ∧ (overridePhase m u l).1.mode = .stopped := by
  rcases overridePhase_cases m u l with ⟨-, hu, ho⟩ | ⟨-, hl, ho⟩ | ⟨-, -, ho⟩ <;> rw [ho] at h ⊢
  · exact ⟨.inl hu, rfl⟩
  · exact ⟨.inr hl, rfl⟩
  · cases h

/-- A limit reads active only in a build that has the limit stop (R202). -/
theorem limitStop_of_limit {s : State} (h : atUpperLimit s = true ∨ atLowerLimit s = true) :
    s.build.limitStop = true := by
  rcases h with h | h <;> exact (Bool.and_eq_true_iff.mp h).1

/-! ### The invariant -/

/-- A node that is not halted keeps the invariant through a cycle under any command of its build. -/
theorem State.Inv.cycle_of_running {s : State} {cmd : Option Command} (hs : s.Inv) (hrun : s.halted = false)
    (hcmd : CommandOf s.build cmd) : (s.cycle cmd).Inv := by
  have hmag : MagFits s.build
      (arbitrate s.build.maxDuty s.motor cmd (atUpperLimit s) (atLowerLimit s)).1.mag := by
    rw [arbitrate, overridePhase_mag]
    exact commandPhase_magFits hs.build_wf hs.magFits hcmd
  rw [s.cycle_of_running cmd hrun]
  exact {
    build_wf := hs.build_wf
    address := hs.address
    cause := hs.cause
    indicator := hs.indicator
    legs := rfl
    direction_mag := hmag.direction
    duty_mag := hmag.range
    duty_mag_type := hmag.type
    sent := fun f hf => by
      obtain ⟨limit, hev, rfl⟩ := Option.map_eq_some_iff.mp hf
      obtain ⟨hlimit, hstopped⟩ := overridePhase_event hev
      exact ⟨limitStop_of_limit hlimit, hstopped, limit, rfl⟩
    halted_quiet := fun hhalt => absurd (hrun.symm.trans hhalt) nofun }

/-- The halted cycle (R225) takes at most a frame off `tx`. -/
theorem State.Inv.haltedCycle {s : State} (hs : s.Inv) : s.haltedCycle.Inv :=
  { hs with
    sent := nofun
    halted_quiet := fun hhalt => ⟨(hs.halted_quiet hhalt).1, rfl⟩ }

/-- The invariant says nothing of the input ports, so it outlives their move to the next cycle. -/
theorem State.Inv.nextInputs {s : State} (hs : s.Inv) : s.nextInputs.Inv := by
  unfold State.nextInputs
  split <;> exact { hs with }

/-- Settles O40: a step is a halted or a running cycle, and then the input ports move on. -/
theorem everyStepKeepsTheInvariant : Obligations.EveryStepKeepsTheInvariant := by
  intro s t hs hstep
  obtain ⟨cmd, hcmd, -, heq⟩ := step_eq_cycle s
  obtain rfl : (s.cycle cmd).nextInputs = t := Host.Outcome.next.inj (heq.symm.trans hstep)
  refine State.Inv.nextInputs ?_
  cases hrun : s.halted with
  | true => rw [s.cycle_of_halted cmd hrun]; exact hs.haltedCycle
  | false => exact hs.cycle_of_running hrun hcmd

/-- Settles O42: each clause of the invariant is a register of R36. -/
theorem powerCycleMeetsTheInvariant : Obligations.PowerCycleMeetsTheInvariant := by
  intro s hb
  obtain ⟨hbase, -, -, -⟩ := (build_wf_iff s.build).mp hb
  have hmag := resetMag_magFits hb
  exact {
    build_wf := by rw [s.powerCycle_build]; exact hb
    address := by simpa using resolveAddress_toNat hbase (composeSelector s.dipN)
    cause := by cases h : s.busInitOk <;> simp [h]
    indicator := by simp
    legs := by simp [legDuties]
    direction_mag := by simpa using hmag.direction
    duty_mag := by simpa using hmag.range
    duty_mag_type := by simpa using hmag.type
    sent := by simp
    halted_quiet := by simp }

/-- Settles O41: the reset state is the power-on of a well-formed build. -/
theorem resetMeetsTheInvariant : Obligations.ResetMeetsTheInvariant := by
  have h : State.reset.powerCycle.Inv := powerCycleMeetsTheInvariant State.reset (by decide)
  rwa [show State.reset.powerCycle = State.reset from resetIsAPowerOn] at h

/-! ### The step under the command of R120's contract -/

/-- The decoded instruction runs the cycle of the command R120's contract names for the same frame. -/
theorem exec_decodeInbound_eq_command (s : State) (f : Frame) (hrx : s.rx = some f) (hid : f.id = s.nodeAddress) :
    exec (decodeInbound s.build.protocol f.data) s = .next (s.cycle s.command) := by
  unfold State.command decode
  rw [hrx]
  cases hp : s.build.protocol with
  | direction =>
    rcases decodeDirection_cases f.data with ⟨h0, hd⟩ | ⟨h1, hd⟩ | ⟨h2, hd⟩ | ⟨h0, h1, h2, hd⟩ <;>
      rw [decodeInbound, hd]
    · simp [hid, h0, exec, execForward]
    · simp [hid, h1, exec, execReverse]
    · simp [hid, h2, exec, execStop]
    · simp only [hid, ne_eq, not_true_eq_false, ↓reduceIte, h0, h1, h2]; rfl
  | duty =>
    rcases decodeDuty_cases f.data with ⟨h0, hd⟩ | ⟨h0, hd⟩ <;> rw [decodeInbound, hd]
    · simp [hid, h0, exec, execSetPower, Payload.magWord]
    · simp only [hid, ne_eq, not_true_eq_false, ↓reduceIte, h0]; rfl

/-- A step as a function of the state, the command named (R200): the form of `step_eq_cycle` for comparing two states. -/
theorem step_eq_cycle_command (s : State) : step s = .next (s.cycle s.command).nextInputs := by
  cases h : s.halted with
  | true => rw [step_of_fetch_error (s.fetch_of_halted h), s.cycle_of_halted _ h, s.cycle_of_halted _ h]
  | false =>
    have hfetch := s.fetch_of_running h
    cases hrx : s.rx with
    | none =>
      have hcmd : s.command = none := by simp [State.command, decode, hrx]
      rw [hrx] at hfetch
      rw [step_of_fetch_error hfetch, hcmd]
    | some f =>
      by_cases hid : f.id = s.nodeAddress
      · rw [hrx, receive, if_pos hid] at hfetch
        rw [step_of_fetch_ok hfetch, exec_decodeInbound_eq_command s f hrx hid]; rfl
      · have hcmd : s.command = none := by simp [State.command, decode, hrx, hid]
        rw [hrx, receive, if_neg hid] at hfetch
        rw [step_of_fetch_error hfetch, hcmd]

/-! ### The reset-time ports -/

/-- `s` with other levels on the ports that are sampled at reset only (R33). -/
def State.withBootInputs (s : State) (dipN : BitVec 4) (busInitOk : Bool) : State :=
  { s with dipN := dipN, busInitOk := busInitOk }

theorem State.withBootInputs_command (s : State) (d : BitVec 4) (ok : Bool) :
    (s.withBootInputs d ok).command = s.command := rfl

theorem State.withBootInputs_cycle (s : State) (d : BitVec 4) (ok : Bool) (cmd : Option Command) :
    (s.withBootInputs d ok).cycle cmd = (s.cycle cmd).withBootInputs d ok := by
  cases h : s.halted with
  | true => rw [s.cycle_of_halted cmd h, (s.withBootInputs d ok).cycle_of_halted cmd h]; rfl
  | false => rw [s.cycle_of_running cmd h, (s.withBootInputs d ok).cycle_of_running cmd h]; rfl

theorem State.withBootInputs_nextInputs (s : State) (d : BitVec 4) (ok : Bool) :
    (s.withBootInputs d ok).nextInputs = s.nextInputs.withBootInputs d ok := by
  cases h : s.script with
  | nil => rw [s.nextInputs_of_nil h, (s.withBootInputs d ok).nextInputs_of_nil h]; rfl
  | cons i rest => rw [s.nextInputs_of_cons i rest h, (s.withBootInputs d ok).nextInputs_of_cons i rest h]; rfl

/-- Settles O31: the command, the cycle and the move of the input ports each commute with a change of those ports. -/
theorem bootInputsUnreadAfterReset : Obligations.BootInputsUnreadAfterReset := by
  intro s t d ok hstep
  obtain rfl : (s.cycle s.command).nextInputs = t :=
    Host.Outcome.next.inj ((step_eq_cycle_command s).symm.trans hstep)
  calc step (s.withBootInputs d ok)
      = .next ((s.withBootInputs d ok).cycle s.command).nextInputs := by
        rw [step_eq_cycle_command, s.withBootInputs_command]
    _ = .next ((s.cycle s.command).nextInputs.withBootInputs d ok) := by
        rw [s.withBootInputs_cycle, State.withBootInputs_nextInputs]

end Sys2Proof.Machine
end

section
/-! PROOFS. The input ports between two cycles (R58, R207): no cycle touches the ports or the script, so what the next
cycle finds there is the script's next entry, or no frame and the same pins. -/

namespace Sys2Proof.Machine

/-- Settles O32: the cycle hands the pins and the script on unchanged, and the move of the input ports then follows the
two cases of the script. -/
theorem inputsMoveOn : Obligations.InputsMoveOn := by
  intro s t hstep
  obtain ⟨cmd, -, -, heq⟩ := step_eq_cycle s
  obtain rfl : (s.cycle cmd).nextInputs = t := Host.Outcome.next.inj (heq.symm.trans hstep)
  obtain ⟨-, -, -, -, -, -, -, -, -, hupper, hlower, hscript⟩ := s.cycle_frame cmd
  constructor
  · intro hnil
    have hnil' : (s.cycle cmd).script = [] := hscript.trans hnil
    rw [State.nextInputs_of_nil _ hnil']
    exact ⟨rfl, hupper, hlower, hnil'⟩
  · intro i rest hcons
    rw [State.nextInputs_of_cons _ i rest (hscript.trans hcons)]
    exact ⟨rfl, rfl, rfl, rfl⟩

end Sys2Proof.Machine
end

section
/-! PROOFS. The encoding (R71 to R84): the bytes of the magnitude word, the opcode maps as equations, the classes of the
binary32 datum, the classification of frames, and the one frame the core sends. -/

namespace Sys2Proof

/-! ### The bytes of the magnitude word -/

/-- A byte joined below the bits above it. -/
theorem append_byte_toNat {n : Nat} (x : BitVec n) (b : Byte) : (x ++ b).toNat = x.toNat * 2 ^ 8 + b.toNat := by
  rw [BitVec.toNat_append, ← Nat.shiftLeft_add_eq_or_of_lt b.isLt, Nat.shiftLeft_eq]

/-- R76 as a sum. -/
theorem be32_toNat (b0 b1 b2 b3 : Byte) :
    (be32 b0 b1 b2 b3).toNat = b0.toNat * 2 ^ 24 + b1.toNat * 2 ^ 16 + b2.toNat * 2 ^ 8 + b3.toNat := by
  rw [be32, append_byte_toNat, append_byte_toNat, append_byte_toNat]
  omega

/-- Eight bits of a word, as a number. -/
theorem byte_toNat (w : Word32) (start : Nat) : (w.extractLsb' start 8).toNat = w.toNat / 2 ^ start % 2 ^ 8 := by
  rw [BitVec.extractLsb'_toNat, Nat.shiftRight_eq_div_pow]

/-- The four bytes `encode` writes are read back as the word. -/
theorem be32_bytes (w : Word32) :
    be32 (w.extractLsb' 24 8) (w.extractLsb' 16 8) (w.extractLsb' 8 8) (w.extractLsb' 0 8) = w := by
  have hw := w.isLt
  refine BitVec.eq_of_toNat_eq ?_
  simp only [be32_toNat, byte_toNat]
  omega

/-- The four bytes `be32` joins are the ones `encode` writes. -/
theorem bytes_be32 (b0 b1 b2 b3 : Byte) :
    (be32 b0 b1 b2 b3).extractLsb' 24 8 = b0 ∧ (be32 b0 b1 b2 b3).extractLsb' 16 8 = b1 ∧
    (be32 b0 b1 b2 b3).extractLsb' 8 8 = b2 ∧ (be32 b0 b1 b2 b3).extractLsb' 0 8 = b3 := by
  have h0 := b0.isLt
  have h1 := b1.isLt
  have h2 := b2.isLt
  have h3 := b3.isLt
  refine ⟨?_, ?_, ?_, ?_⟩ <;> refine BitVec.eq_of_toNat_eq ?_ <;> rw [byte_toNat, be32_toNat] <;> omega

/-- Settles O6: the sum of R76 for any four bytes. -/
theorem magnitudeWordIsBigEndian : Obligations.MagnitudeWordIsBigEndian :=
  fun p => be32_toNat p.d1 p.d2 p.d3 p.d4

/-! ### The opcode maps, an equation per row -/

/-- The unrecognized opcodes of R74, as a range and as the bytes left over by the three commands. -/
theorem three_le_toNat_iff (b : Byte) : 3 ≤ b.toNat ↔ b ≠ 0#8 ∧ b ≠ 1#8 ∧ b ≠ 2#8 := by
  simp only [ne_eq, BitVec.toNat_eq, BitVec.toNat_ofNat]
  omega

/-- The unrecognized opcodes of R75, likewise. -/
theorem one_le_toNat_iff (b : Byte) : 1 ≤ b.toNat ↔ b ≠ 0#8 := by
  simp only [ne_eq, BitVec.toNat_eq, BitVec.toNat_ofNat]
  omega

theorem decodeDirection_forward {p : Payload} (h : p.d0 = 0) : decodeDirection p = .forward := if_pos h

theorem decodeDirection_reverse {p : Payload} (h : p.d0 = 1) : decodeDirection p = .reverse := by
  simp [decodeDirection, Payload.opcode, h]

theorem decodeDirection_stop {p : Payload} (h : p.d0 = 2) : decodeDirection p = .stop := by
  simp [decodeDirection, Payload.opcode, h]

theorem decodeDirection_ignore {p : Payload} (h : 3 ≤ p.d0.toNat) : decodeDirection p = .dirIgnore p.d0 := by
  obtain ⟨h0, h1, h2⟩ := (three_le_toNat_iff p.d0).mp h
  simp [decodeDirection, Payload.opcode, h0, h1, h2]

theorem decodeDuty_setPower {p : Payload} (h : p.d0 = 0) : decodeDuty p = .setPower p.magWord := if_pos h

theorem decodeDuty_ignore {p : Payload} (h : 1 ≤ p.d0.toNat) : decodeDuty p = .dutyIgnore p.d0 :=
  if_neg ((one_le_toNat_iff p.d0).mp h)

theorem decodeStatus_encode (limit : Limit) : decodeStatus (encode (.statusLimit limit)) = .ok (.statusLimit limit) := by
  cases limit <;> decide

/-- Settles O1, by the constructors: each instruction's opcode byte selects its own row, and its operands are the bytes
that row reads. -/
theorem decodeEncodeAgree : Obligations.DecodeEncodeAgree := by
  intro i hwf
  cases i with
  | forward => exact congrArg Except.ok (decodeDirection_forward rfl)
  | reverse => exact congrArg Except.ok (decodeDirection_reverse rfl)
  | stop => exact congrArg Except.ok (decodeDirection_stop rfl)
  | dirIgnore opcode =>
    have hop : 3 ≤ opcode.toNat := of_decide_eq_true hwf
    exact congrArg Except.ok (decodeDirection_ignore hop)
  | setPower word =>
    have hword : (encode (.setPower word)).magWord = word := be32_bytes word
    exact congrArg Except.ok ((decodeDuty_setPower rfl).trans (congrArg Instr.setPower hword))
  | dutyIgnore opcode =>
    have hop : 1 ≤ opcode.toNat := of_decide_eq_true hwf
    exact congrArg Except.ok (decodeDuty_ignore hop)
  | statusLimit limit => exact decodeStatus_encode limit

/-- Settles O2, row by row of the two opcode maps. -/
theorem encodeKeepsEveryReadByte : Obligations.EncodeKeepsEveryReadByte := by
  intro pr p
  cases pr with
  | direction =>
    rcases decodeDirection_cases p with ⟨h, hd⟩ | ⟨h, hd⟩ | ⟨h, hd⟩ | ⟨h0, h1, h2, hd⟩ <;> rw [decodeInbound, hd]
    · exact ⟨rfl, h.symm, nofun⟩
    · exact ⟨rfl, h.symm, nofun⟩
    · exact ⟨rfl, h.symm, nofun⟩
    · have hop : 3 ≤ p.d0.toNat := (three_le_toNat_iff p.d0).mpr ⟨h0, h1, h2⟩
      exact ⟨by simp [Instr.wfIn, Instr.wf, Instr.format, Protocol.format, hop], rfl, nofun⟩
  | duty =>
    rcases decodeDuty_cases p with ⟨h, hd⟩ | ⟨h, hd⟩ <;> rw [decodeInbound, hd]
    · exact ⟨rfl, h.symm, fun _ _ => bytes_be32 p.d1 p.d2 p.d3 p.d4⟩
    · have hop : 1 ≤ p.d0.toNat := (one_le_toNat_iff p.d0).mpr h
      exact ⟨by simp [Instr.wfIn, Instr.wf, Instr.format, Protocol.format, hop], rfl, fun _ h0 => absurd h0 h⟩

/-- Settles O3, by evaluating the decoders on the six payloads. -/
theorem writtenOutFramesDecode : Obligations.WrittenOutFramesDecode := by
  unfold Obligations.WrittenOutFramesDecode
  decide

/-! ### The classification of frames -/

/-- In a DIRECTION build the opcodes up to `0x02` are recognized (R74, R84). -/
theorem verdict_decodeDirection (p : Payload) :
    (decodeDirection p).verdict = if p.d0.toNat ≤ 2 then .accepted else .unrecognizedOpcode := by
  rcases decodeDirection_cases p with ⟨h, hd⟩ | ⟨h, hd⟩ | ⟨h, hd⟩ | ⟨h0, h1, h2, hd⟩ <;> rw [hd]
  · rw [h]; rfl
  · rw [h]; rfl
  · rw [h]; rfl
  · have hop : 3 ≤ p.d0.toNat := (three_le_toNat_iff p.d0).mpr ⟨h0, h1, h2⟩
    rw [if_neg (by omega)]; rfl

/-- In a DUTY build the opcode `0x00` alone is recognized (R75, R84). -/
theorem verdict_decodeDuty (p : Payload) :
    (decodeDuty p).verdict = if p.d0 = 0 then .accepted else .unrecognizedOpcode := by
  rcases decodeDuty_cases p with ⟨h, hd⟩ | ⟨h, hd⟩ <;> rw [hd]
  · rw [if_pos h]; rfl
  · rw [if_neg h]; rfl

/-- The opcode is looked at only behind a matching identifier (R122). -/
theorem verdictOf_receive (pr : Protocol) (addr : Ident) (f : Frame) :
    verdictOf (receive pr addr (some f)) =
      some (if f.id = addr then (decodeInbound pr f.data).verdict else .unaddressed) := by
  by_cases hid : f.id = addr
  · rw [receive, if_pos hid, if_pos hid]; rfl
  · rw [receive, if_neg hid, if_neg hid]; rfl

/-- Settles O12: the identifier first, then the recognized opcodes of the protocol. -/
theorem everyFrameIsClassified : Obligations.EveryFrameIsClassified := by
  intro pr addr f
  rw [verdictOf_receive]
  by_cases hid : f.id = addr
  · cases pr with
    | direction =>
      have hrange : 3 ≤ f.data.d0.toNat ↔ ¬f.data.d0.toNat ≤ 2 := by omega
      rw [if_pos hid, decodeInbound, verdict_decodeDirection, hrange]
      by_cases hop : f.data.d0.toNat ≤ 2 <;> simp [hid, hop]
    | duty =>
      rw [if_pos hid, decodeInbound, verdict_decodeDuty, one_le_toNat_iff]
      by_cases hop : f.data.d0 = 0#8 <;> simp [hid, hop]
  · simp [hid]

namespace Machine

/-! ### The opcode maps under R120's contract -/

/-- Settles O4: each opcode selects the same row in the opcode map and in the contract. -/
theorem directionOpcodeMap : Obligations.DirectionOpcodeMap := by
  intro b f hp
  refine ⟨fun h => ⟨decodeDirection_forward h, ?_⟩, fun h => ⟨decodeDirection_reverse h, ?_⟩,
    fun h => ⟨decodeDirection_stop h, ?_⟩, fun h => ⟨decodeDirection_ignore h, ?_⟩⟩
  · simp [decode, hp, h]
  · simp [decode, hp, h]
  · simp [decode, hp, h]
  · obtain ⟨h0, h1, h2⟩ := (three_le_toNat_iff f.data.d0).mp h
    simp [decode, hp, h0, h1, h2]

/-- Settles O5, as O4. -/
theorem dutyOpcodeMap : Obligations.DutyOpcodeMap := by
  intro b f hp
  refine ⟨fun h => ⟨decodeDuty_setPower h, ?_⟩, fun h => ⟨decodeDuty_ignore h, ?_⟩⟩
  · simp [decode, hp, h]
  · have h0 : f.data.d0 ≠ 0#8 := (one_le_toNat_iff f.data.d0).mp h
    simp [decode, hp, h0]

/-! ### The value of a SetPower word -/

/-- Settles O7: the sign bit costs `2^32`. -/
theorem int32ValueIsTwosComplement : Obligations.Int32ValueIsTwosComplement := by
  intro w
  have hw := w.isLt
  refine ⟨w.toInt, rfl, ?_⟩
  rw [BitVec.toInt_eq_toNat_cond]
  split <;> split <;> omega

/-- R78, `1 ≤ e ≤ 254`: the count of units of a normal datum is `2^(e−127) × (1 + f/2^23)`. -/
theorem mkRat_unitCount_normal {e : Nat} (f : Nat) (he : 1 ≤ e) :
    mkRat (unitCount e f) (2 ^ 149) = (2 : Rat) ^ ((e : Int) - 127) * (1 + (f : Rat) / 2 ^ 23) := by
  obtain ⟨k, rfl⟩ := Nat.exists_eq_add_of_le' he
  have hpow : (2 : Rat) ^ (((k + 1 : Nat) : Int) - 127) = 2 ^ k / 2 ^ 126 := by
    rw [show ((k + 1 : Nat) : Int) - 127 = (k : Int) - (126 : Nat) by push_cast; omega, zpow_sub₀ two_ne_zero,
      zpow_natCast, zpow_natCast]
  rw [hpow, unitCount, if_neg (Nat.succ_ne_zero k), Nat.add_sub_cancel, Rat.mkRat_eq_div]
  push_cast
  ring

/-- R78, `e = 0`: the count of units of a subnormal datum is `2^(−126) × (f/2^23)`. -/
theorem mkRat_unitCount_subnormal (f : Nat) :
    mkRat (unitCount 0 f) (2 ^ 149) = (2 : Rat) ^ (-126 : Int) * ((f : Rat) / 2 ^ 23) := by
  rw [unitCount, if_pos rfl, Rat.mkRat_eq_div]
  push_cast
  ring

/-- The infinities (R78). -/
theorem F32.ofBits_infinite {w : Word32} (he : exponentField w = 255) (hf : fractionField w = 0) :
    F32.ofBits w = .infinite (signBit w) := by
  rw [F32.ofBits, if_pos he, if_pos hf]

/-- The NaNs (R78). -/
theorem F32.ofBits_nan {w : Word32} (he : exponentField w = 255) (hf : fractionField w ≠ 0) :
    F32.ofBits w = .nan := by
  rw [F32.ofBits, if_pos he, if_neg hf]

/-- The value of a finite datum is its sign applied to its absolute value: the comparisons with 0 and `abs` are those of
that value (R78). -/
theorem F32.finite_comparisons (neg : Bool) {a : Mag} (ha : 0 ≤ a) :
    ((F32.finite neg a).isPositive = true ↔ 0 < (if neg then -a else a)) ∧
    ((F32.finite neg a).isNegative = true ↔ (if neg then -a else a) < 0) ∧
    a = |if neg then -a else a| := by
  cases neg <;> simp [F32.isPositive, F32.isNegative, ha, ha.lt_iff_ne', abs_of_nonneg ha]

/-- Settles O8: the five classes by the exponent and fraction fields, then the operations on a finite datum. -/
theorem binary32ValueIsTheDatum : Obligations.Binary32ValueIsTheDatum := by
  intro w
  rw [← exponentField_eq, ← fractionField_eq, show w.getLsbD 31 = signBit w from rfl]
  refine ⟨rfl, fun h1 h254 => ?normal, fun h0 _ => ?subnormal, fun h0 hf => ?zero, F32.ofBits_infinite, F32.ofBits_nan,
    fun neg a h => ?finite⟩
  case normal =>
    exact (F32.ofBits_eq_finite_iff _ _ _).mpr ⟨by omega, rfl, mkRat_unitCount_normal _ h1⟩
  case subnormal =>
    exact (F32.ofBits_eq_finite_iff _ _ _).mpr ⟨by omega, rfl, by rw [h0, mkRat_unitCount_subnormal]⟩
  case zero =>
    exact (F32.ofBits_eq_finite_iff _ _ _).mpr ⟨by omega, rfl, by rw [h0, hf]; rfl⟩
  case finite =>
    obtain ⟨hpos, hneg, habs⟩ := F32.finite_comparisons neg (F32.ofBits_absValue_nonneg h)
    rw [h]
    exact ⟨hpos, hneg, habs, minMag_eq_min a⟩

/-- Settles O10: under BINARY32 the word of `x` is that of its sign and absolute value, under INT32 that of the integer
itself. -/
theorem powerNotationRoundTrip : Obligations.PowerNotationRoundTrip := by
  refine ⟨fun x hx => ?_, fun v hlo hhi => ?_⟩
  · have habs : (if x < 0 then -x else x) = |x| := by
      split
      case isTrue h => exact (abs_of_neg h).symm
      case isFalse h => exact (abs_of_nonneg (not_lt.mp h)).symm
    rw [powerWord, habs, powerOf, F32.ofBits_binary32Word _ hx]
  · rw [powerWord, Rat.num_intCast, powerOf, BitVec.toInt_ofInt_eq_self (by decide) hlo (by omega)]

/-! ### The frame the core sends -/

/-- The override fires exactly on the limit in the direction of the mode it is given (R158 to R160, R202). -/
theorem overridePhase_event_eq (s : State) (m : Motor) :
    (overridePhase m (atUpperLimit s) (atLowerLimit s)).2 = s.limitFires m.mode := by
  obtain ⟨mode, g⟩ := m
  cases mode with
  | forward => by_cases h : s.build.limitStop = true ∧ s.upperN = .low <;>
      simp [overridePhase, State.limitFires, atUpperLimit, activeLow, h]
  | reverse => by_cases h : s.build.limitStop = true ∧ s.lowerN = .low <;>
      simp [overridePhase, State.limitFires, atLowerLimit, activeLow, h]
  | stopped => rfl

theorem State.cycle_tx_of_halted {s : State} (h : s.halted = true) (cmd : Option Command) : (s.cycle cmd).tx = none := by
  rw [s.cycle_of_halted cmd h]; rfl

/-- What a running cycle sends (R161): the event of the limit that the command phase's mode moves toward. -/
theorem State.cycle_tx_of_running {s : State} (h : s.halted = false) (cmd : Option Command) :
    (s.cycle cmd).tx = (s.limitFires (commandPhase s.build.maxDuty s.motor cmd).mode).map statusFrame := by
  rw [s.cycle_of_running cmd h, State.emit_tx, arbitrate, overridePhase_event_eq]

/-- A frame on `tx` after a step is the status frame of the limit that fired (R161, R225). -/
theorem step_tx_eq_some {s t : State} {f : Frame} (hstep : step s = .next t) (hf : t.tx = some f) :
    ∃ limit, s.limitFires (commandPhase s.build.maxDuty s.motor s.command).mode = some limit ∧
      f = statusFrame limit := by
  obtain rfl : (s.cycle s.command).nextInputs = t :=
    Host.Outcome.next.inj ((step_eq_cycle_command s).symm.trans hstep)
  rw [State.nextInputs_tx] at hf
  cases hrun : s.halted with
  | true => rw [State.cycle_tx_of_halted hrun] at hf; cases hf
  | false =>
    rw [State.cycle_tx_of_running hrun] at hf
    obtain ⟨limit, hlimit, rfl⟩ := Option.map_eq_some_iff.mp hf
    exact ⟨limit, hlimit, rfl⟩

/-- Settles O36: the frame sent is `statusFrame` of the limit that fired, whose fields are read off for either limit. -/
theorem everyFrameSentIsAStatusFrame : Obligations.EveryFrameSentIsAStatusFrame := by
  intro s t f hstep hf
  obtain ⟨limit, hlimit, rfl⟩ := step_tx_eq_some hstep hf
  refine ⟨rfl, rfl, rfl, rfl, rfl, rfl, rfl, rfl, rfl, ?_⟩
  cases limit with
  | upper => exact .inl ⟨rfl, hlimit, decodeStatus_encode .upper⟩
  | lower => exact .inr ⟨rfl, hlimit, decodeStatus_encode .lower⟩

/-- Settles O22: a running node puts the status frame of the limit on `tx`. -/
theorem statusLimitResult : Obligations.StatusLimitResult := by
  intro limit s hrun
  have hsend : s.sendStatus limit = s.emit (some limit) := by rw [State.sendStatus, hrun]; rfl
  calc exec (.statusLimit limit) s
      = .next (s.emit (some limit)) := congrArg Host.Outcome.next hsend
    _ = _ := by cases limit <;> rfl

end Machine

end Sys2Proof
end

section
/-! PROOFS. The address selector (R101, R102): the inverted pins as a weighted sum, and the address above its base. -/

namespace Sys2Proof.Machine

/-- A 4-bit word is the sum of its bits, each under the weight of its place. -/
theorem toNat_eq_weightedSum (x : BitVec 4) :
    x.toNat = (x.getLsbD 0).toNat * 1 + (x.getLsbD 1).toNat * 2 + (x.getLsbD 2).toNat * 4 + (x.getLsbD 3).toNat * 8 := by
  have hx := x.isLt
  simp only [BitVec.getLsbD, Nat.toNat_testBit]
  omega

/-- COMPOSE_SELECTOR (R101) on one pin: a low pin counts 1, a high pin 0. -/
theorem composeSelector_getLsbD (dipN : BitVec 4) {k : Nat} (hk : k < 4) :
    ((composeSelector dipN).getLsbD k).toNat = 1 - (dipN.getLsbD k).toNat := by
  rw [composeSelector, BitVec.getLsbD_not, decide_eq_true hk, Bool.true_and]
  cases dipN.getLsbD k <;> rfl

/-- Settles O47: the selector is the sum of its own bits, and each of them inverts one pin. -/
theorem selectorIsTheWeightedSum : Obligations.SelectorIsTheWeightedSum := by
  intro s
  rw [State.powerCycle_selector]
  refine ⟨rfl, ?_⟩
  rw [toNat_eq_weightedSum (composeSelector s.dipN), composeSelector_getLsbD _ (by decide),
    composeSelector_getLsbD _ (by decide), composeSelector_getLsbD _ (by decide), composeSelector_getLsbD _ (by decide)]

/-- Settles O48: the sum does not wrap under the range of R6, and the bound is the width of an identifier. -/
theorem addressIsBasePlusSelector : Obligations.AddressIsBasePlusSelector := by
  intro s hbase
  have hsum : s.powerCycle.nodeAddress.toNat = s.build.baseAddress + s.powerCycle.selector.toNat := by
    rw [State.powerCycle_nodeAddress, State.powerCycle_selector, resolveAddress_toNat hbase]
  have haddr := s.powerCycle.nodeAddress.isLt
  exact ⟨hsum, by omega⟩

end Sys2Proof.Machine
end

section
/-! PROOFS. The command decoder (R120 to R132): its contract is a reading of the instruction the front end decodes, which
takes nothing but the identifier, the opcode and a SetPower's magnitude bytes, and an ignored opcode leaves a cycle in
which the override alone acts. -/

namespace Sys2Proof

/-! ### What the opcode dispatch reads -/

/-- The opcode byte is all a DIRECTION build reads (R74, R132). -/
theorem decodeDirection_congr {p q : Payload} (h : p.d0 = q.d0) : decodeDirection p = decodeDirection q := by
  unfold decodeDirection Payload.opcode
  rw [h]

/-- A DUTY build reads the opcode byte, and the magnitude bytes behind the opcode `0x00` only (R75, R76, R132). -/
theorem decodeDuty_congr {p q : Payload} (h : p.d0 = q.d0) (hmag : p.d0 = 0 → p.magWord = q.magWord) :
    decodeDuty p = decodeDuty q := by
  rcases decodeDuty_cases p with ⟨h0, hp⟩ | ⟨h0, hp⟩
  · rw [hp, decodeDuty_setPower (h.symm.trans h0), hmag h0]
  · rw [hp, decodeDuty_ignore ((one_le_toNat_iff q.d0).mpr (h ▸ h0)), h]

/-- The bytes the dispatch reads under either protocol. -/
theorem decodeInbound_congr {pr : Protocol} {p q : Payload} (h : p.d0 = q.d0)
    (hmag : pr = .duty → p.d0 = 0 → p.magWord = q.magWord) : decodeInbound pr p = decodeInbound pr q := by
  cases pr with
  | direction => exact decodeDirection_congr h
  | duty => exact decodeDuty_congr h (hmag rfl)

namespace Machine

/-! ### The contract as a reading of the decoded instruction -/

/-- The typed command of an instruction (R124 to R129), tied to R120's contract by `decode_of_addressed`; an ignored frame
and the outbound one carry none. -/
def commandOfInstr (encoding : PowerEncoding) : Instr → Option Command
  | .forward => some (.setDirection .forward)
  | .reverse => some (.setDirection .reverse)
  | .stop => some (.setDirection .stop)
  | .setPower word => some (.setPower (powerOf encoding word))
  | .dirIgnore _ => none
  | .dutyIgnore _ => none
  | .statusLimit _ => none

/-- The address check comes before any data byte (R122). -/
theorem decode_of_unaddressed (b : Build) {f : Frame} {addr : Ident} (hid : f.id ≠ addr) :
    decode b (some f) addr = (.unaddressed, none) := if_pos hid

/-- An addressed frame: R120's contract is the verdict and the command of the instruction the dispatch decodes. -/
theorem decode_of_addressed (b : Build) {f : Frame} {addr : Ident} (hid : f.id = addr) :
    decode b (some f) addr =
      ((decodeInbound b.protocol f.data).verdict, commandOfInstr b.powerEncoding (decodeInbound b.protocol f.data)) := by
  subst hid
  cases hp : b.protocol with
  | direction =>
    obtain ⟨hforward, hreverse, hstop, hignore⟩ := directionOpcodeMap b f hp
    rcases decodeDirection_cases f.data with ⟨h, -⟩ | ⟨h, -⟩ | ⟨h, -⟩ | ⟨h0, h1, h2, -⟩
    · obtain ⟨hi, hd⟩ := hforward h; rw [hi, hd]; rfl
    · obtain ⟨hi, hd⟩ := hreverse h; rw [hi, hd]; rfl
    · obtain ⟨hi, hd⟩ := hstop h; rw [hi, hd]; rfl
    · obtain ⟨hi, hd⟩ := hignore ((three_le_toNat_iff _).mpr ⟨h0, h1, h2⟩); rw [hi, hd]; rfl
  | duty =>
    obtain ⟨hpower, hignore⟩ := dutyOpcodeMap b f hp
    rcases decodeDuty_cases f.data with ⟨h, -⟩ | ⟨h, -⟩
    · obtain ⟨hi, hd⟩ := hpower h; rw [hi, hd]; rfl
    · obtain ⟨hi, hd⟩ := hignore ((one_le_toNat_iff _).mpr h); rw [hi, hd]; rfl

/-- Settles O13: no frame, an unaddressed one, and an addressed one, where both are the verdict of one instruction. -/
theorem verdictIsTheContracts : Obligations.VerdictIsTheContracts := by
  intro b addr rx
  cases rx with
  | none => rfl
  | some f =>
    rw [verdictOf_receive]
    by_cases hid : f.id = addr
    · rw [if_pos hid, decode_of_addressed b hid]
    · rw [if_neg hid, decode_of_unaddressed b hid]

/-! ### The bytes the decoder never reads -/

/-- Settles O14: behind a foreign identifier nothing is read, and behind the node's own the two payloads decode to one
instruction. -/
theorem unreadBytesDoNotChangeDecode : Obligations.UnreadBytesDoNotChangeDecode := by
  intro b addr f g hfg hop hmag
  by_cases hid : f.id = addr
  · have hinstr : decodeInbound b.protocol f.data = decodeInbound b.protocol g.data := by
      refine decodeInbound_congr (hop hid) fun hp h0 => ?_
      obtain ⟨h1, h2, h3, h4⟩ := hmag hid hp h0
      rw [Payload.magWord, Payload.magWord, h1, h2, h3, h4]
    rw [decode_of_addressed b hid, decode_of_addressed b (hfg.symm.trans hid), hinstr]
  · rw [decode_of_unaddressed b hid, decode_of_unaddressed b (hfg ▸ hid)]

/-- `s` with another frame, or none, on the `rx` port (R33). -/
def State.setRx (s : State) (rx : Option Frame) : State := { s with rx := rx }

/-- What a cycle does under a given command does not depend on the frame on the port. -/
theorem State.setRx_cycle (s : State) (rx : Option Frame) (cmd : Option Command) :
    (s.setRx rx).cycle cmd = (s.cycle cmd).setRx rx := by
  cases h : s.halted with
  | true => rw [s.cycle_of_halted cmd h, (s.setRx rx).cycle_of_halted cmd h]; rfl
  | false => rw [s.cycle_of_running cmd h, (s.setRx rx).cycle_of_running cmd h]; rfl

/-- Whatever frame is left on the port is gone when the cycle ends (R58). -/
theorem State.setRx_nextInputs (s : State) (rx : Option Frame) : (s.setRx rx).nextInputs = s.nextInputs := by
  cases h : s.script with
  | nil => rw [s.nextInputs_of_nil h, (s.setRx rx).nextInputs_of_nil h]; rfl
  | cons i rest => rw [s.nextInputs_of_cons i rest h, (s.setRx rx).nextInputs_of_cons i rest h]; rfl

/-- The received frame reaches the next state through the decoder's command only (R65, R120). -/
theorem step_setRx (s : State) (rx : Option Frame) :
    step (s.setRx rx) = .next (s.cycle (decode s.build rx s.nodeAddress).2).nextInputs := by
  rw [step_eq_cycle_command, State.setRx_cycle, State.setRx_nextInputs]; rfl

/-- Settles O15: the frame's only way into the step is the decoder, which gives one result for both (O14). -/
theorem unreadBytesDoNotChangeStep : Obligations.UnreadBytesDoNotChangeStep := by
  intro s f g hfg hop hmag
  have hdecode : decode s.build (some f) s.nodeAddress = decode s.build (some g) s.nodeAddress :=
    unreadBytesDoNotChangeDecode s.build s.nodeAddress f g hfg hop hmag
  calc step (s.setRx (some f))
      = .next (s.cycle (decode s.build (some f) s.nodeAddress).2).nextInputs := step_setRx s (some f)
    _ = .next (s.cycle (decode s.build (some g) s.nodeAddress).2).nextInputs := by rw [hdecode]
    _ = step (s.setRx (some g)) := (step_setRx s (some g)).symm

/-! ### A running cycle is the finish of its command phase -/

/-- An override that fires stops the motor and keeps the magnitude (R158, R159). -/
theorem overridePhase_of_event {m : Motor} {u l : Bool} {limit : Limit} (h : (overridePhase m u l).2 = some limit) :
    overridePhase m u l = (⟨.stopped, m.mag⟩, some limit) := by
  rcases overridePhase_cases m u l with ⟨-, -, ho⟩ | ⟨-, -, ho⟩ | ⟨-, -, ho⟩ <;> rw [ho] at h ⊢
  · cases h; rfl
  · cases h; rfl
  · cases h

/-- An override that does not fire passes the motor on (R160). -/
theorem overridePhase_of_no_event {m : Motor} {u l : Bool} (h : (overridePhase m u l).2 = none) :
    overridePhase m u l = (m, none) := by
  rcases overridePhase_cases m u l with ⟨-, -, ho⟩ | ⟨-, -, ho⟩ | ⟨-, -, ho⟩ <;> rw [ho] at h ⊢
  · cases h
  · cases h

/-- `State.finish` where a limit fires: stopped, both legs 0, the event on `tx`. -/
theorem State.finish_of_fires {s : State} {m : Mode} {limit : Limit} (g : Mag) (h : s.limitFires m = some limit) :
    s.finish m g =
      { s with mode := .stopped, mag := g, dutyA := 0, dutyB := 0, tx := some (statusFrame limit) } := by
  unfold State.finish
  rw [h]
  cases limit <;> rfl

/-- `State.finish` where none fires: the legs of the given mode and magnitude, nothing on `tx`. -/
theorem State.finish_of_no_fire {s : State} {m : Mode} (g : Mag) (h : s.limitFires m = none) :
    s.finish m g = ((s.setMotor ⟨m, g⟩).drive).emit none := by
  unfold State.finish
  rw [h]
  cases m <;> rfl

/-- A running cycle (R200) under any command: override, drive and emit turn the command phase's motor into
`State.finish`. -/
theorem State.cycle_eq_finish {s : State} (hrun : s.halted = false) (cmd : Option Command) :
    s.cycle cmd =
      s.finish (commandPhase s.build.maxDuty s.motor cmd).mode (commandPhase s.build.maxDuty s.motor cmd).mag := by
  rw [s.cycle_of_running cmd hrun, arbitrate]
  generalize commandPhase s.build.maxDuty s.motor cmd = m
  have hevent := overridePhase_event_eq s m
  cases hfires : s.limitFires m.mode with
  | none => rw [overridePhase_of_no_event (hevent.trans hfires), State.finish_of_no_fire _ hfires]
  | some limit => rw [overridePhase_of_event (hevent.trans hfires), State.finish_of_fires _ hfires]; rfl

/-- Settles O19: an ignored opcode runs the cycle without a command, whose command phase is the motor as it stands
(R152). -/
theorem ignoredOpcodeResult : Obligations.IgnoredOpcodeResult := by
  intro opcode s hrun
  have hcycle : s.cycle none = s.finish s.mode s.mag := State.cycle_eq_finish hrun none
  have hdir : exec (.dirIgnore opcode) s = .next (s.cycle none) := rfl
  have hduty : exec (.dutyIgnore opcode) s = .next (s.cycle none) := rfl
  rw [hdir, hduty, hcycle]
  exact ⟨rfl, rfl⟩

end Machine

end Sys2Proof
end

section
/-! PROOFS. The motion arbiter (R150 to R160) one cycle at a time: what `State.finish` leaves in each register, and every
command's result as the finish of its own command phase. -/

namespace Sys2Proof.Machine

/-! ### The registers after `State.finish` -/

theorem State.limitFires_stopped (s : State) : s.limitFires .stopped = none := rfl

/-- A build without the limit stop reads no pin, so no limit fires (R160, R202). -/
theorem State.limitFires_of_off {s : State} (hoff : s.build.limitStop = false) (m : Mode) : s.limitFires m = none := by
  cases m <;> simp [State.limitFires, hoff]

theorem State.limitFires_forward {s : State} (hon : s.build.limitStop = true) (hlow : s.upperN = .low) :
    s.limitFires .forward = some .upper := if_pos ⟨hon, hlow⟩

theorem State.limitFires_reverse {s : State} (hon : s.build.limitStop = true) (hlow : s.lowerN = .low) :
    s.limitFires .reverse = some .lower := if_pos ⟨hon, hlow⟩

/-- Stopped passes the override at any limit state (R160, R183). -/
theorem State.finish_stopped (s : State) (g : Mag) :
    s.finish .stopped g = { s with mode := .stopped, mag := g, dutyA := 0, dutyB := 0, tx := none } := rfl

/-- The override keeps the magnitude it is given (D9). -/
theorem State.finish_mag (s : State) (m : Mode) (g : Mag) : (s.finish m g).mag = g := by
  cases h : s.limitFires m with
  | none => rw [State.finish_of_no_fire g h]; rfl
  | some limit => rw [State.finish_of_fires g h]

/-- The legs follow the final mode and magnitude of the cycle (R180 to R183). -/
theorem State.finish_duties (s : State) (m : Mode) (g : Mag) :
    ((s.finish m g).dutyA, (s.finish m g).dutyB) = legDuties (s.finish m g).motor := by
  cases h : s.limitFires m with
  | none => rw [State.finish_of_no_fire g h]; rfl
  | some limit => rw [State.finish_of_fires g h]; rfl

/-- No limit fires in the direction of the final mode: either none fired, or the override left Stopped (R163). -/
theorem State.limitFires_finish_mode (s : State) (m : Mode) (g : Mag) : s.limitFires (s.finish m g).mode = none := by
  cases h : s.limitFires m with
  | none => rw [State.finish_of_no_fire g h]; exact h
  | some limit => rw [State.finish_of_fires g h]; rfl

theorem legDuties_fst_of_ne_forward {m : Motor} (h : m.mode ≠ .forward) : (legDuties m).1 = 0 := by
  obtain ⟨mode, g⟩ := m
  cases mode with
  | forward => exact absurd rfl h
  | reverse => rfl
  | stopped => rfl

theorem legDuties_snd_of_ne_reverse {m : Motor} (h : m.mode ≠ .reverse) : (legDuties m).2 = 0 := by
  obtain ⟨mode, g⟩ := m
  cases mode with
  | forward => rfl
  | reverse => exact absurd rfl h
  | stopped => rfl

/-! ### A step of a running node -/

/-- A step of a running node as one equation: the command phase, its finish, and the move of the input ports (R200). -/
theorem step_eq_finish {s : State} (hrun : s.halted = false) :
    step s = .next (s.finish (commandPhase s.build.maxDuty s.motor s.command).mode
      (commandPhase s.build.maxDuty s.motor s.command).mag).nextInputs := by
  rw [step_eq_cycle_command, State.cycle_eq_finish hrun]

/-- `step_eq_cycle_command` for a given next state. -/
theorem eq_of_step_eq_next {s t : State} (hstep : step s = .next t) : t = (s.cycle s.command).nextInputs :=
  Host.Outcome.next.inj (hstep.symm.trans (step_eq_cycle_command s))

/-- No step halts a node or restarts it (R27). -/
theorem step_halted {s t : State} (hstep : step s = .next t) : t.halted = s.halted := by
  obtain ⟨-, -, -, -, hhalted, -⟩ := s.cycle_frame s.command
  rw [eq_of_step_eq_next hstep, State.nextInputs_halted, hhalted]

/-- No step changes the build (R7). -/
theorem step_build {s t : State} (hstep : step s = .next t) : t.build = s.build := by
  obtain ⟨hbuild, -⟩ := s.cycle_frame s.command
  rw [eq_of_step_eq_next hstep, State.nextInputs_build, hbuild]

/-! ### The direction commands -/

/-- Settles O16: FORWARD's command phase is `(Forward, S.mag)`. -/
theorem forwardResult : Obligations.ForwardResult := fun _ hrun =>
  congrArg Host.Outcome.next (State.cycle_eq_finish hrun (some (.setDirection .forward)))

/-- Settles O17: REVERSE's command phase is `(Reverse, S.mag)`. -/
theorem reverseResult : Obligations.ReverseResult := fun _ hrun =>
  congrArg Host.Outcome.next (State.cycle_eq_finish hrun (some (.setDirection .reverse)))

/-- Settles O18: STOP's command phase is `(Stopped, S.mag)`, which passes the override. -/
theorem stopResult : Obligations.StopResult := by
  intro s hrun
  have hcycle : s.cycle (some (.setDirection .stop)) = s.finish .stopped s.mag := State.cycle_eq_finish hrun _
  calc exec .stop s
      = .next (s.cycle (some (.setDirection .stop))) := rfl
    _ = .next (s.finish .stopped s.mag) := by rw [hcycle]
    _ = _ := by rw [State.finish_stopped]

/-! ### SETPOWER, by the class of its operand -/

/-- SETPOWER under BINARY32: the finish of APPLY_POWER_F32 (R156). -/
theorem exec_setPower_binary32 {s : State} (hrun : s.halted = false) (henc : s.build.powerEncoding = .binary32)
    (w : Word32) :
    exec (.setPower w) s = .next (s.finish (applyPowerF32 s.build.maxDuty (F32.ofBits w)).mode
      (applyPowerF32 s.build.maxDuty (F32.ofBits w)).mag) := by
  rw [exec, execSetPower, henc, State.cycle_eq_finish hrun]; rfl

/-- SETPOWER under INT32: the finish of APPLY_POWER_I32 (R157). -/
theorem exec_setPower_int32 {s : State} (hrun : s.halted = false) (henc : s.build.powerEncoding = .int32)
    (w : Word32) :
    exec (.setPower w) s = .next (s.finish (applyPowerI32 s.build.maxDuty w.toInt).mode
      (applyPowerI32 s.build.maxDuty w.toInt).mag) := by
  rw [exec, execSetPower, henc, State.cycle_eq_finish hrun]; rfl

/-- Settles O20, class by class of the datum. -/
theorem setPowerBinary32Result : Obligations.SetPowerBinary32Result := by
  intro w s hrun henc
  rw [exec_setPower_binary32 hrun henc]
  refine ⟨fun hw => ?nan, fun neg hw => ?infinite, fun neg a hw ha => ?nonzero, fun neg hw => ?zero⟩
  case nan => rw [hw, applyPowerF32_nan]
  case infinite => rw [hw, applyPowerF32_infinite]
  case nonzero => rw [hw, applyPowerF32_finite, if_neg ha, minMag_eq_min]
  case zero => rw [hw, applyPowerF32_finite, if_pos rfl]

/-- APPLY_POWER_I32 sign by sign (R157). -/
theorem applyPowerI32_of_pos (hi : Mag) {v : Int} (hv : 0 < v) :
    applyPowerI32 hi v = ⟨.forward, min (v : Rat) hi⟩ := by
  rcases applyPowerI32_cases hi v with ⟨-, h⟩ | ⟨hneg, -⟩ | ⟨hzero, -⟩
  · exact h
  · omega
  · omega

theorem applyPowerI32_of_neg (hi : Mag) {v : Int} (hv : v < 0) :
    applyPowerI32 hi v = ⟨.reverse, min (-(v : Rat)) hi⟩ := by
  rcases applyPowerI32_cases hi v with ⟨hpos, -⟩ | ⟨-, h⟩ | ⟨hzero, -⟩
  · omega
  · exact h
  · omega

theorem applyPowerI32_zero (hi : Mag) : applyPowerI32 hi 0 = ⟨.stopped, 0⟩ := rfl

/-- Settles O21, sign by sign of the operand. -/
theorem setPowerInt32Result : Obligations.SetPowerInt32Result := by
  intro w s hrun henc
  rw [exec_setPower_int32 hrun henc]
  refine ⟨fun hv => ?positive, fun hv => ?negative, fun hv => ?zero⟩
  case positive => rw [applyPowerI32_of_pos _ hv]
  case negative => rw [applyPowerI32_of_neg _ hv]
  case zero => rw [hv, applyPowerI32_zero]

/-! ### The direction and the ceiling of SETPOWER -/

/-- The opposite direction; Stopped has none. -/
def Mode.opposite : Mode → Mode
  | .forward => .reverse
  | .reverse => .forward
  | .stopped => .stopped

theorem Mode.opposite_eq_reverse_iff (m : Mode) : m.opposite = .reverse ↔ m = .forward := by
  cases m <;> simp [Mode.opposite]

theorem Mode.opposite_eq_forward_iff (m : Mode) : m.opposite = .forward ↔ m = .reverse := by
  cases m <;> simp [Mode.opposite]

/-- The same magnitude in the opposite direction. -/
def Motor.opposite (m : Motor) : Motor := ⟨m.mode.opposite, m.mag⟩

/-- The datum with its sign bit flipped (R78). -/
def F32.negate : F32 → F32
  | .finite negative a => .finite (!negative) a
  | .infinite negative => .infinite (!negative)
  | .nan => .nan

theorem exponentField_flipSign (w : Word32) : exponentField (w ^^^ 0x80000000) = exponentField w := by
  rw [exponentField, BitVec.extractLsb'_xor, show (0x80000000 : Word32).extractLsb' 23 8 = 0#8 by decide,
    BitVec.xor_zero, exponentField]

theorem fractionField_flipSign (w : Word32) : fractionField (w ^^^ 0x80000000) = fractionField w := by
  rw [fractionField, BitVec.extractLsb'_xor, show (0x80000000 : Word32).extractLsb' 0 23 = 0#23 by decide,
    BitVec.xor_zero, fractionField]

theorem signBit_flipSign (w : Word32) : signBit (w ^^^ 0x80000000) = !signBit w := by
  rw [signBit, BitVec.getLsbD_xor, show (0x80000000 : Word32).getLsbD 31 = true by decide, Bool.xor_true, signBit]

/-- Flipping bit 31 of a word negates its datum (R78). -/
theorem F32.ofBits_flipSign (w : Word32) : F32.ofBits (w ^^^ 0x80000000) = (F32.ofBits w).negate := by
  unfold F32.ofBits
  rw [exponentField_flipSign, fractionField_flipSign, signBit_flipSign]
  split
  · split <;> rfl
  · split <;> rfl

/-- APPLY_POWER_F32 takes its direction from the sign and its magnitude from the absolute value (R156). -/
theorem applyPowerF32_negate (hi : Mag) (v : F32) : applyPowerF32 hi v.negate = (applyPowerF32 hi v).opposite := by
  cases v with
  | nan => rfl
  | infinite neg =>
    rw [F32.negate, applyPowerF32_infinite, applyPowerF32_infinite]
    cases neg <;> rfl
  | finite neg a =>
    rw [F32.negate, applyPowerF32_finite, applyPowerF32_finite]
    split
    · rfl
    · cases neg <;> rfl

/-- Settles O11: the flipped word is the negated datum, which gives the motor of the opposite direction. -/
theorem signBitOnlySwapsDirection : Obligations.SignBitOnlySwapsDirection := by
  intro hi w
  rw [F32.ofBits_flipSign, applyPowerF32_negate]
  exact ⟨rfl, Mode.opposite_eq_reverse_iff _, Mode.opposite_eq_forward_iff _⟩

/-- APPLY_POWER_I32 of the negated value: the opposite direction (R157, D11). -/
theorem applyPowerI32_neg (hi : Mag) (v : Int) : applyPowerI32 hi (-v) = (applyPowerI32 hi v).opposite := by
  rcases lt_trichotomy v 0 with hv | rfl | hv
  · rw [applyPowerI32_of_neg hi hv, applyPowerI32_of_pos hi (Int.neg_pos_of_neg hv), Int.cast_neg]; rfl
  · rfl
  · rw [applyPowerI32_of_pos hi hv, applyPowerI32_of_neg hi (Int.neg_neg_of_pos hv), Int.cast_neg, neg_neg]; rfl

/-- R157 said of the absolute value. -/
theorem applyPowerI32_mag {hi : Mag} (h0 : 0 ≤ hi) (v : Int) : (applyPowerI32 hi v).mag = min |(v : Rat)| hi := by
  rcases applyPowerI32_cases hi v with ⟨hv, h⟩ | ⟨hv, h⟩ | ⟨rfl, h⟩ <;> rw [h]
  · rw [abs_of_pos (Int.cast_pos.mpr hv)]
  · rw [abs_of_neg (Int.cast_lt_zero.mpr hv)]
  · rw [Int.cast_zero, abs_zero, min_eq_left h0]

/-- R156 said of the absolute value of a finite datum. -/
theorem applyPowerF32_finite_mag {hi a : Mag} (h0 : 0 ≤ hi) (neg : Bool) :
    (applyPowerF32 hi (.finite neg a)).mag = min a hi := by
  rw [applyPowerF32_finite]
  split
  case isTrue ha => rw [ha, min_eq_left h0]
  case isFalse => exact minMag_eq_min a hi

/-- What a SetPower word stores lies between 0 and the ceiling, under both encodings (R156, R157, R166). -/
theorem setPower_mag_bounds {hi : Mag} (h0 : 0 ≤ hi) (enc : PowerEncoding) (m : Motor) (w : Word32) :
    0 ≤ (commandPhase hi m (some (.setPower (powerOf enc w)))).mag ∧
    (commandPhase hi m (some (.setPower (powerOf enc w)))).mag ≤ hi := by
  cases enc with
  | int32 =>
    change 0 ≤ (applyPowerI32 hi w.toInt).mag ∧ (applyPowerI32 hi w.toInt).mag ≤ hi
    rw [applyPowerI32_mag h0]
    exact ⟨le_min (abs_nonneg _) h0, min_le_right _ _⟩
  | binary32 =>
    change 0 ≤ (applyPowerF32 hi (F32.ofBits w)).mag ∧ (applyPowerF32 hi (F32.ofBits w)).mag ≤ hi
    cases hw : F32.ofBits w with
    | nan => rw [applyPowerF32_nan]; exact ⟨le_rfl, h0⟩
    | infinite neg => rw [applyPowerF32_infinite]; exact ⟨h0, le_rfl⟩
    | finite neg a =>
      rw [applyPowerF32_finite_mag h0]
      exact ⟨le_min (F32.ofBits_absValue_nonneg hw) h0, min_le_right _ _⟩

/-- Settles O54: both encodings store the minimum of the absolute value and the ceiling. -/
theorem oneCeilingBoundsBothDirections : Obligations.OneCeilingBoundsBothDirections := by
  intro hi h0
  refine ⟨setPower_mag_bounds h0, fun w neg a hw ha => ?_, fun w neg hw => ?_, fun v hv => ?_, fun v => ?_⟩
  · rw [hw, applyPowerF32_finite_mag h0, min_eq_right ha]
  · rw [hw, applyPowerF32_infinite]
  · rw [applyPowerI32_mag h0, min_eq_right hv]
  · rw [applyPowerI32_neg]
    exact ⟨rfl, Mode.opposite_eq_reverse_iff _, Mode.opposite_eq_forward_iff _⟩

end Sys2Proof.Machine
end

section
/-! PROOFS. The motion arbiter over whole cycles (R152, R160 to R167): the pins a build without the limit stop does not
read, the interlock and its event, and what lasts over any number of cycles. -/

namespace Sys2Proof.Machine

/-! ### Cycles without a command -/

/-- No frame, or one for another address, carries no command (R122, R203). -/
theorem State.command_of_no_instruction {s : State}
    (h : s.rx = none ∨ ∃ f, s.rx = some f ∧ f.id ≠ s.nodeAddress) : s.command = none := by
  rcases h with hrx | ⟨f, hrx, hid⟩
  · rw [State.command, hrx]; rfl
  · rw [State.command, hrx, decode_of_unaddressed s.build hid]

/-- A step of a running node without a command: the motor as it stands passes the override (R152). -/
theorem step_of_no_command {s : State} (hrun : s.halted = false) (hcmd : s.command = none) :
    step s = .next (s.finish s.mode s.mag).nextInputs := by
  rw [step_eq_finish hrun, hcmd]; rfl

/-- Settles O28: neither case carries a command, so the override alone acts. -/
theorem cycleWithoutInstruction : Obligations.CycleWithoutInstruction := fun _ hrun hrx =>
  step_of_no_command hrun (State.command_of_no_instruction hrx)

/-! ### The pins of a build without the limit stop -/

/-- `s` with other levels on the limit pins (R33). -/
def State.withPins (s : State) (upper lower : Level) : State := { s with upperN := upper, lowerN := lower }

/-- Every inbound instruction runs one cycle under its typed command (R124 to R129). -/
theorem exec_eq_cycle {i : Instr} (hi : i.format ≠ .status) (s : State) :
    exec i s = .next (s.cycle (commandOfInstr s.build.powerEncoding i)) := by
  cases i with
  | statusLimit limit => exact absurd rfl hi
  | forward => rfl
  | reverse => rfl
  | stop => rfl
  | dirIgnore opcode => rfl
  | setPower word => rfl
  | dutyIgnore opcode => rfl

/-- Without the limit stop a cycle sends nothing (R160). -/
theorem State.cycle_tx_of_off {s : State} (hoff : s.build.limitStop = false) (cmd : Option Command) :
    (s.cycle cmd).tx = none := by
  cases hrun : s.halted with
  | true => exact State.cycle_tx_of_halted hrun cmd
  | false => rw [State.cycle_tx_of_running hrun, State.limitFires_of_off hoff]; rfl

/-- Without the limit stop a cycle carries the pins along unread (R202). -/
theorem State.withPins_cycle {s : State} (hoff : s.build.limitStop = false) (u l : Level) (cmd : Option Command) :
    (s.withPins u l).cycle cmd = (s.cycle cmd).withPins u l := by
  cases hrun : s.halted with
  | true => rw [s.cycle_of_halted cmd hrun, (s.withPins u l).cycle_of_halted cmd hrun]; rfl
  | false =>
    have hoff' : (s.withPins u l).build.limitStop = false := hoff
    rw [State.cycle_eq_finish hrun, State.cycle_eq_finish (s := s.withPins u l) hrun,
      State.finish_of_no_fire _ (State.limitFires_of_off hoff _),
      State.finish_of_no_fire _ (State.limitFires_of_off hoff' _)]
    rfl

/-- The pins outlive the cycle only when the script is at its end (log entry 3). -/
theorem State.withPins_nextInputs (s : State) (u l : Level) :
    (s.withPins u l).nextInputs = if s.script = [] then s.nextInputs.withPins u l else s.nextInputs := by
  cases h : s.script with
  | nil => rw [if_pos rfl, s.nextInputs_of_nil h, (s.withPins u l).nextInputs_of_nil h]; rfl
  | cons i rest =>
    rw [if_neg (List.cons_ne_nil i rest), s.nextInputs_of_cons i rest h, (s.withPins u l).nextInputs_of_cons i rest h]
    rfl

/-- Settles O24: a command's `exec` and a step are cycles, which carry the pins along unread. -/
theorem pinsUnreadWithoutLimitStop : Obligations.PinsUnreadWithoutLimitStop := by
  refine ⟨fun i s t u l hoff hi hexec => ?exec, fun s t u l hoff hstep => ?step⟩
  case exec =>
    obtain rfl : s.cycle (commandOfInstr s.build.powerEncoding i) = t :=
      Host.Outcome.next.inj ((exec_eq_cycle hi s).symm.trans hexec)
    refine ⟨State.cycle_tx_of_off hoff _, ?_⟩
    exact (exec_eq_cycle hi (s.withPins u l)).trans (congrArg Host.Outcome.next (State.withPins_cycle hoff u l _))
  case step =>
    obtain rfl := eq_of_step_eq_next hstep
    obtain ⟨-, -, -, -, -, -, -, -, -, -, -, hscript⟩ := s.cycle_frame s.command
    refine ⟨by rw [State.nextInputs_tx, State.cycle_tx_of_off hoff], ?_⟩
    calc step (s.withPins u l)
        = .next ((s.withPins u l).cycle s.command).nextInputs := step_eq_cycle_command _
      _ = .next (if s.script = [] then (s.cycle s.command).nextInputs.withPins u l
            else (s.cycle s.command).nextInputs) := by
          rw [State.withPins_cycle hoff, State.withPins_nextInputs, hscript]

/-! ### The interlock and its event -/

/-- The interlock on the state a step of a running node answers: no limit fires in the direction of its mode, and its legs
are those of its motor (R163, R180). -/
theorem step_interlock {s t : State} (hrun : s.halted = false) (hstep : step s = .next t) :
    s.limitFires t.mode = none ∧ (t.dutyA, t.dutyB) = legDuties t.motor := by
  obtain rfl := Host.Outcome.next.inj ((step_eq_finish hrun).symm.trans hstep)
  rw [State.nextInputs_mode, State.nextInputs_dutyA, State.nextInputs_dutyB, State.nextInputs_motor]
  exact ⟨s.limitFires_finish_mode _ _, s.finish_duties _ _⟩

/-- A moving node of a build without the limit stop, at its active upper limit. -/
def unguardedNode : State :=
  { State.reset with
    build := { Config.observedBuild with limitStop := false }, mode := .forward, dutyA := 25, upperN := .low }

/-- Settles O34: the final mode meets no active limit, and a leg is driven in the final mode's direction only. -/
theorem interlockHoldsEveryCycle : Obligations.InterlockHoldsEveryCycle := by
  refine ⟨fun s t hon hrun hstep => ?_, unguardedNode, unguardedNode, rfl, rfl, rfl, rfl, rfl⟩
  obtain ⟨hclear, hlegs⟩ := step_interlock hrun hstep
  obtain ⟨hA, hB⟩ := Prod.mk.inj hlegs
  have hforward (hlow : s.upperN = .low) : t.mode ≠ .forward := fun hm => by
    rw [hm, State.limitFires_forward hon hlow] at hclear; cases hclear
  have hreverse (hlow : s.lowerN = .low) : t.mode ≠ .reverse := fun hm => by
    rw [hm, State.limitFires_reverse hon hlow] at hclear; cases hclear
  exact ⟨fun ⟨hm, hlow⟩ => hforward hlow hm, fun ⟨hm, hlow⟩ => hreverse hlow hm,
    fun hlow => hA.trans (legDuties_fst_of_ne_forward (hforward hlow)),
    fun hlow => hB.trans (legDuties_snd_of_ne_reverse (hreverse hlow))⟩

/-- Settles O35: `tx` is written by the cycle, and the move of the input ports leaves it. -/
theorem eventExactlyWhenTheLimitFires : Obligations.EventExactlyWhenTheLimitFires := by
  intro s t hrun hstep
  rw [eq_of_step_eq_next hstep, State.nextInputs_tx, State.cycle_tx_of_running hrun]

/-! ### Stop -/

/-- The commands of R165: a Stop, or a SetPower of zero in either encoding. -/
def IsStop (cmd : Option Command) : Prop :=
  cmd = some (.setDirection .stop) ∨ cmd = some (.setPower (.int32 0)) ∨
    ∃ neg, cmd = some (.setPower (.binary32 (.finite neg 0)))

theorem commandPhase_mode_of_isStop (hi : Mag) (m : Motor) {cmd : Option Command} (h : IsStop cmd) :
    (commandPhase hi m cmd).mode = .stopped := by
  rcases h with rfl | rfl | ⟨neg, rfl⟩
  · rfl
  · rfl
  · rw [commandPhase, applyPowerF32_finite, if_pos rfl]

/-- A stop leaves Stopped, both legs 0 and no event, from every running state (R155, R160). -/
theorem step_of_isStop {s t : State} (hrun : s.halted = false) (hcmd : IsStop s.command) (hstep : step s = .next t) :
    t.mode = .stopped ∧ t.dutyA = 0 ∧ t.dutyB = 0 ∧ t.tx = none := by
  rw [step_eq_finish hrun, commandPhase_mode_of_isStop _ _ hcmd, State.finish_stopped] at hstep
  obtain rfl := Host.Outcome.next.inj hstep
  simp

/-- Settles O37: the first stop leaves a running node, and the second does the same again. -/
theorem stopIsIdempotent : Obligations.StopIsIdempotent := by
  intro s t u hrun hs hst ht htu
  obtain ⟨hmode, hA, hB, htx⟩ := step_of_isStop hrun hs hst
  exact ⟨hmode, hA, hB, htx, step_of_isStop ((step_halted hst).trans hrun) ht htu⟩

/-! ### Over any number of cycles -/

theorem trace_succ {s t : State} (hstep : step s = .next t) (k : Nat) : trace (k + 1) s = t.observe :: trace k t := by
  rw [trace, hstep]

theorem run_succ {M : Host.Core} {s t : M.State} (hstep : M.step s = .next t) (k : Nat) :
    M.run (k + 1) s = M.run k t := by
  rw [Host.Core.run, hstep]

/-- The limit in the direction of the mode is inactive now and in every scripted cycle, or the build reads none: the
premise of `MotionPersistsWithoutCommand`. -/
def State.WayIsFree (s : State) : Prop :=
  s.build.limitStop = false ∨
    ((s.mode = .forward → s.upperN = .high ∧ ∀ i ∈ s.script, i.upperN = .high) ∧
      (s.mode = .reverse → s.lowerN = .high ∧ ∀ i ∈ s.script, i.lowerN = .high))

/-- A stopped node moves toward neither limit. -/
theorem State.wayIsFree_of_stopped {s : State} (h : s.mode = .stopped) : s.WayIsFree := by
  refine .inr ⟨fun hm => ?_, fun hm => ?_⟩ <;> rw [h] at hm <;> cases hm

theorem State.WayIsFree.limitFires {s : State} (h : s.WayIsFree) : s.limitFires s.mode = none := by
  rcases h with hoff | ⟨hforward, hreverse⟩
  · exact State.limitFires_of_off hoff _
  · cases hm : s.mode with
    | stopped => rfl
    | forward => simp [State.limitFires, (hforward hm).1]
    | reverse => simp [State.limitFires, (hreverse hm).1]

/-- The next cycle's pins stood on the ports or in the script before (R207, log entry 3). -/
theorem State.WayIsFree.nextInputs {s : State} (h : s.WayIsFree) : s.nextInputs.WayIsFree := by
  cases hscript : s.script with
  | nil => rw [s.nextInputs_of_nil hscript]; exact h
  | cons i rest =>
    rw [s.nextInputs_of_cons i rest hscript]
    refine h.imp id fun ⟨hforward, hreverse⟩ => ⟨fun hm => ?_, fun hm => ?_⟩
    · exact List.forall_mem_cons.mp (hscript ▸ (hforward hm).2)
    · exact List.forall_mem_cons.mp (hscript ▸ (hreverse hm).2)

/-- A cycle without a command and with the way free only drives the legs anew from the motor as it stands (R152, R160). -/
theorem step_of_wayIsFree {s : State} (hrun : s.halted = false) (hcmd : s.command = none) (hfree : s.WayIsFree) :
    step s = .next (s.drive.emit none).nextInputs := by
  rw [step_of_no_command hrun hcmd, State.finish_of_no_fire _ hfree.limitFires]; rfl

/-- Such a cycle again leaves a running node with the same motor and the way free. -/
theorem wayIsFree_drive {s : State} (hfree : s.WayIsFree) : (s.drive.emit none).nextInputs.WayIsFree :=
  State.WayIsFree.nextInputs (s := s.drive.emit none) hfree

/-- What the outside sees of cycles without a command and with the way free: the legs of the one motor, and no frame. -/
theorem trace_of_no_command (k : Nat) (s : State) (hrun : s.halted = false) (hcmd : NoCommandFor k s)
    (hfree : s.WayIsFree) : ∀ o ∈ trace k s, (o.dutyA, o.dutyB) = legDuties s.motor ∧ o.tx = none := by
  induction k generalizing s with
  | zero => exact fun o ho => absurd ho List.not_mem_nil
  | succ k ih =>
    obtain ⟨hnow, hlater⟩ := hcmd
    have hstep := step_of_wayIsFree hrun hnow hfree
    have htail := ih _ ((step_halted hstep).trans hrun) (hlater _ hstep) (wayIsFree_drive hfree)
    rw [trace_succ hstep, List.forall_mem_cons]
    refine ⟨by simp [State.observe], ?_⟩
    rwa [State.nextInputs_motor] at htail

/-- The motor after such cycles is the one before them. -/
theorem run_motor_of_no_command (k : Nat) (s t : State) (hrun : s.halted = false) (hcmd : NoCommandFor k s)
    (hfree : s.WayIsFree) (ht : Host.Core.run core k s = .next t) : t.motor = s.motor := by
  induction k generalizing s with
  | zero => cases ht; rfl
  | succ k ih =>
    obtain ⟨hnow, hlater⟩ := hcmd
    have hstep := step_of_wayIsFree hrun hnow hfree
    rw [run_succ (M := core) hstep] at ht
    rw [ih _ ((step_halted hstep).trans hrun) (hlater _ hstep) (wayIsFree_drive hfree) ht, State.nextInputs_motor]
    rfl

/-- Settles O39: induction over the cycles, each of which keeps the motor and the way free. -/
theorem motionPersistsWithoutCommand : Obligations.MotionPersistsWithoutCommand := by
  intro k s t hrun hcmd hfree ht
  have hmotor := run_motor_of_no_command k s t hrun hcmd hfree ht
  exact ⟨congrArg Motor.mode hmotor, congrArg Motor.mag hmotor, trace_of_no_command k s hrun hcmd hfree⟩

/-- Settles O38: a stopped node has the way free whatever its limit pins do, and the legs of its motor are 0. -/
theorem stoppedNodeStaysSilent : Obligations.StoppedNodeStaysSilent := by
  intro k s hrun hstopped hcmd o ho
  obtain ⟨hlegs, htx⟩ := trace_of_no_command k s hrun hcmd (State.wayIsFree_of_stopped hstopped) o ho
  have hzero : legDuties s.motor = (0, 0) := by rw [legDuties, State.motor_mode, hstopped]
  obtain ⟨hA, hB⟩ := Prod.mk.inj (hlegs.trans hzero)
  exact ⟨hA, hB, htx⟩

/-! ### The magnitude a node keeps -/

/-- The command of R120's contract is one of the build's own (R82). -/
theorem State.command_commandOf (s : State) : CommandOf s.build s.command := by
  unfold State.command
  cases s.rx with
  | none => exact .inl rfl
  | some f =>
    by_cases hid : f.id = s.nodeAddress
    · rw [decode_of_addressed s.build hid]
      cases hp : s.build.protocol with
      | direction =>
        rcases decodeDirection_cases f.data with ⟨-, hd⟩ | ⟨-, hd⟩ | ⟨-, hd⟩ | ⟨-, -, -, hd⟩ <;> rw [decodeInbound, hd]
        · exact .inr (.inl ⟨hp, _, rfl⟩)
        · exact .inr (.inl ⟨hp, _, rfl⟩)
        · exact .inr (.inl ⟨hp, _, rfl⟩)
        · exact .inl rfl
      | duty =>
        rcases decodeDuty_cases f.data with ⟨-, hd⟩ | ⟨-, hd⟩ <;> rw [decodeInbound, hd]
        · exact .inr (.inr ⟨hp, _, rfl⟩)
        · exact .inl rfl
    · rw [decode_of_unaddressed s.build hid]; exact .inl rfl

/-- No command of a DIRECTION build writes the magnitude (R164). -/
theorem commandPhase_mag_of_direction {b : Build} {cmd : Option Command} (hp : b.protocol = .direction)
    (hcmd : CommandOf b cmd) (hi : Mag) (m : Motor) : (commandPhase hi m cmd).mag = m.mag := by
  rcases hcmd with rfl | ⟨-, d, rfl⟩ | ⟨hduty, -⟩
  · rfl
  · exact commandPhase_setDirection_mag hi m d
  · rw [hp] at hduty; cases hduty

/-- Settles O45: power-on writes `DIRECTION_DUTY`, and neither phase of a cycle writes another magnitude. -/
theorem directionMagnitudeIsConstant : Obligations.DirectionMagnitudeIsConstant := by
  refine fun s hp => ⟨by rw [s.powerCycle_mag, resetMag_direction hp], fun t hstep => ?_⟩
  rw [eq_of_step_eq_next hstep, State.nextInputs_mag]
  cases hrun : s.halted with
  | true => rw [s.cycle_of_halted _ hrun]; rfl
  | false =>
    rw [State.cycle_eq_finish hrun, State.finish_mag, commandPhase_mag_of_direction hp s.command_commandOf]; rfl

/-- `s` with another magnitude in the register (R26). -/
def State.withMag (s : State) (g : Mag) : State := { s with mag := g }

theorem State.withMag_nextInputs (s : State) (g : Mag) : (s.withMag g).nextInputs = s.nextInputs.withMag g := by
  cases h : s.script with
  | nil => rw [s.nextInputs_of_nil h, (s.withMag g).nextInputs_of_nil h]; rfl
  | cons i rest => rw [s.nextInputs_of_cons i rest h, (s.withMag g).nextInputs_of_cons i rest h]; rfl

/-- The final state of a cycle holds the command phase's magnitude, not the old one. -/
theorem State.withMag_finish (s : State) (g : Mag) (m : Mode) (g1 : Mag) :
    (s.withMag g).finish m g1 = s.finish m g1 := by
  cases h : s.limitFires m with
  | none =>
    have h' : (s.withMag g).limitFires m = none := h
    rw [State.finish_of_no_fire g1 h, State.finish_of_no_fire g1 h']; rfl
  | some limit =>
    have h' : (s.withMag g).limitFires m = some limit := h
    rw [State.finish_of_fires g1 h, State.finish_of_fires g1 h']; rfl

/-- A halted cycle carries the magnitude along unread (R225). -/
theorem State.withMag_cycle_of_halted {s : State} (hhalt : s.halted = true) (g : Mag) (cmd : Option Command) :
    (s.withMag g).cycle cmd = (s.cycle cmd).withMag g := by
  rw [s.cycle_of_halted cmd hhalt, (s.withMag g).cycle_of_halted cmd hhalt]; rfl

/-- A stopped cycle without a command carries it along too (R152, R183). -/
theorem State.withMag_cycle_none {s : State} (hrun : s.halted = false) (hstopped : s.mode = .stopped) (g : Mag) :
    (s.withMag g).cycle none = (s.cycle none).withMag g ∧ (s.cycle none).mode = .stopped := by
  have hs : s.cycle none = s.finish .stopped s.mag := hstopped ▸ State.cycle_eq_finish hrun none
  have hg : (s.withMag g).cycle none = (s.withMag g).finish .stopped g :=
    hstopped ▸ State.cycle_eq_finish (s := s.withMag g) hrun none
  rw [hs, hg]
  exact ⟨rfl, rfl⟩

/-- A SetPower writes the magnitude and reads none (R156, R157). -/
theorem State.withMag_cycle_setPower {s : State} (hrun : s.halted = false) (g : Mag) (v : Power) :
    (s.withMag g).cycle (some (.setPower v)) = s.cycle (some (.setPower v)) := by
  have hphase : commandPhase s.build.maxDuty (s.withMag g).motor (some (.setPower v)) =
      commandPhase s.build.maxDuty s.motor (some (.setPower v)) := by cases v <;> rfl
  rw [State.cycle_eq_finish hrun, State.cycle_eq_finish (s := s.withMag g) hrun, State.withMag_finish,
    show (s.withMag g).build = s.build from rfl, hphase]

/-- The simulation of R164 in a DUTY build: a cycle of a stopped node forgets the magnitude, or it leaves the node stopped
and carries the magnitude along. -/
theorem State.withMag_cycle_command {s : State} (hp : s.build.protocol = .duty) (hstopped : s.mode = .stopped) (g : Mag) :
    (s.withMag g).cycle s.command = s.cycle s.command ∨
      ((s.withMag g).cycle s.command = (s.cycle s.command).withMag g ∧ (s.cycle s.command).mode = .stopped) := by
  cases hrun : s.halted with
  | true => exact .inr ⟨State.withMag_cycle_of_halted hrun g _, by rw [s.cycle_of_halted _ hrun]; exact hstopped⟩
  | false =>
    rcases s.command_commandOf with hcmd | ⟨hdir, -⟩ | ⟨-, w, hcmd⟩
    · rw [hcmd]; exact .inr (State.withMag_cycle_none hrun hstopped g)
    · rw [hp] at hdir; cases hdir
    · rw [hcmd]; exact .inl (State.withMag_cycle_setPower hrun g _)

/-- Settles O44: induction over the cycles. Each ends in one state for both runs, or in a stopped state with the two
magnitudes, of which an observation shows neither. -/
theorem magnitudeWhileStoppedIsNeverSeen : Obligations.MagnitudeWhileStoppedIsNeverSeen := by
  intro k
  induction k with
  | zero => exact fun _ _ _ _ => rfl
  | succ k ih =>
    intro s g hp hstopped
    have hstep := step_eq_cycle_command s
    have hstep' : step (s.withMag g) = .next ((s.withMag g).cycle s.command).nextInputs := step_eq_cycle_command _
    change trace (k + 1) (s.withMag g) = trace (k + 1) s
    rcases State.withMag_cycle_command hp hstopped g with hsame | ⟨hcarried, hnext⟩
    · rw [hsame] at hstep'
      rw [trace_succ hstep, trace_succ hstep']
    · rw [hcarried, State.withMag_nextInputs] at hstep'
      rw [trace_succ hstep, trace_succ hstep']
      have htail := ih (s.cycle s.command).nextInputs g (by rw [step_build hstep, hp])
        (by rw [State.nextInputs_mode, hnext])
      exact congrArg (_ :: ·) htail

end Sys2Proof.Machine
end

section
/-! PROOFS. The duty mapper (R180 to R184): a leg is 0 or carries the magnitude, so what the invariant says of the build
and of the magnitude bounds both legs. -/

namespace Sys2Proof.Machine

/-- What R184 admits as the duty of one leg in a build. -/
structure DutyFits (b : Build) (d : Mag) : Prop where
  nonneg    : 0 ≤ d
  le_full   : d ≤ 100
  le_max    : b.protocol = .duty → d ≤ b.maxDuty
  direction : b.protocol = .direction → d = 0 ∨ d = b.directionDuty

/-- An undriven leg (R181 to R183). -/
theorem dutyFits_zero {b : Build} (hb : b.wf = true) : DutyFits b 0 := by
  obtain ⟨-, ⟨hmax0, -⟩, -, -⟩ := (build_wf_iff b).mp hb
  exact ⟨le_rfl, by decide, fun _ => hmax0, fun _ => .inl rfl⟩

/-- A driven leg carries the magnitude (R181, R182), whose bound is the parameter of the build's protocol. -/
theorem MagFits.dutyFits {b : Build} {g : Mag} (hg : MagFits b g) (hb : b.wf = true) : DutyFits b g := by
  obtain ⟨-, ⟨-, hmax100⟩, ⟨hdir0, hdir100⟩, -⟩ := (build_wf_iff b).mp hb
  cases hp : b.protocol with
  | direction =>
    have hdir : g = b.directionDuty := hg.direction hp
    exact ⟨hdir ▸ hdir0, hdir ▸ hdir100, fun hd => absurd (hp.symm.trans hd) nofun, fun _ => .inr hdir⟩
  | duty =>
    obtain ⟨h0, hmax⟩ := hg.range hp
    exact ⟨h0, hmax.trans hmax100, fun _ => hmax, fun hd => absurd (hp.symm.trans hd) nofun⟩

/-- No mode drives both legs (R181 to R183). -/
theorem legDuties_one_zero (m : Motor) : (legDuties m).1 = 0 ∨ (legDuties m).2 = 0 := by
  by_cases hm : m.mode = .forward
  · exact .inr (legDuties_snd_of_ne_reverse (by rw [hm]; nofun))
  · exact .inl (legDuties_fst_of_ne_forward hm)

/-- Both legs of an admitted magnitude are admitted duties, in every mode. -/
theorem legDuties_dutyFits {b : Build} {m : Motor} (hb : b.wf = true) (hm : MagFits b m.mag) :
    DutyFits b (legDuties m).1 ∧ DutyFits b (legDuties m).2 := by
  obtain ⟨mode, g⟩ := m
  cases mode with
  | forward => exact ⟨hm.dutyFits hb, dutyFits_zero hb⟩
  | reverse => exact ⟨dutyFits_zero hb, hm.dutyFits hb⟩
  | stopped => exact ⟨dutyFits_zero hb, dutyFits_zero hb⟩

/-- R184 holds in every state that meets the invariant. -/
theorem State.Inv.legs_fit {s : State} (hs : s.Inv) :
    (s.dutyA = 0 ∨ s.dutyB = 0) ∧ DutyFits s.build s.dutyA ∧ DutyFits s.build s.dutyB := by
  obtain ⟨hA, hB⟩ := Prod.mk.inj hs.legs
  rw [hA, hB]
  exact ⟨legDuties_one_zero s.motor, legDuties_dutyFits hs.build_wf hs.magFits⟩

/-- Settles O43: the step keeps the invariant (O40), which says R184 of the state it answers. -/
theorem atMostOneLegIsDriven : Obligations.AtMostOneLegIsDriven := by
  intro s t hs hstep
  obtain ⟨hone, hA, hB⟩ := (everyStepKeepsTheInvariant s t hs hstep).legs_fit
  exact ⟨hone, hA.nonneg, hA.le_full, hB.nonneg, hB.le_full, fun hp => ⟨hA.le_max hp, hB.le_max hp⟩,
    fun hp => ⟨hA.direction hp, hB.direction hp⟩⟩

end Sys2Proof.Machine
end

section
/-! PROOFS. The node cycle (R200 to R206): which instruction a step runs and under which command, what a cycle leaves
unchanged, and that runs of every length go through. -/

namespace Sys2Proof

/-- The reading in the build's own inbound format is the core's opcode dispatch (R82, R123). -/
theorem decodeAs_format (pr : Protocol) (p : Payload) : decodeAs pr.format p = .ok (decodeInbound pr p) := by
  cases pr <;> rfl

namespace Machine

/-! ### The instruction and the command of a step -/

/-- A running node takes the instruction of a frame that carries its own identifier (R122, R123). -/
theorem State.fetch_of_addressed {s : State} {f : Frame} (hrun : s.halted = false) (hrx : s.rx = some f)
    (hid : f.id = s.nodeAddress) : s.fetch = .ok (decodeInbound s.build.protocol f.data) := by
  rw [s.fetch_of_running hrun, hrx, receive, if_pos hid]

/-- The step of such a node is that instruction's, ended by the move of the input ports (R200). -/
theorem step_of_addressed {s : State} {f : Frame} (hrun : s.halted = false) (hrx : s.rx = some f)
    (hid : f.id = s.nodeAddress) : step s = endCycle (exec (decodeInbound s.build.protocol f.data) s) :=
  step_of_fetch_ok (State.fetch_of_addressed hrun hrx hid)

/-- Settles O27: both paths were compared instruction by instruction in `exec_decodeInbound_eq_command`. -/
theorem stepIsTheNodeCycle : Obligations.StepIsTheNodeCycle := step_eq_cycle_command

/-- Settles O25: the build's format and the opcode dispatch decode one instruction, which the step runs. -/
theorem stepRunsTheDecodedInstruction : Obligations.StepRunsTheDecodedInstruction := by
  intro s t f i hrun hrx hid hdecode hexec
  obtain rfl : decodeInbound s.build.protocol f.data = i :=
    Except.ok.inj ((decodeAs_format s.build.protocol f.data).symm.trans hdecode)
  rw [step_of_addressed hrun hrx hid, hexec]; rfl

/-- A table word is placed in a frame with the node's own identifier and the word's payload (log entry 5). -/
theorem State.fetchFrame_of_payload (s : State) {nbits w : Nat} {p : Payload} (hp : tablePayload nbits w = some p) :
    ∃ f, s.fetchFrame nbits w = some f ∧ f.id = s.nodeAddress ∧ f.data = p := by
  rw [State.fetchFrame, hp]
  exact ⟨_, rfl, rfl, rfl⟩

/-- Settles O26: the placed frame is an addressed one, and placing it changes neither the build nor the address. -/
theorem placedWordRuns : Obligations.PlacedWordRuns := by
  intro s nbits w p hrun hp
  obtain ⟨f, hf, hid, rfl⟩ := s.fetchFrame_of_payload hp
  exact step_of_addressed (s := s.withFetchWord nbits w) hrun hf hid

/-! ### What a cycle leaves unchanged -/

/-- STATUS_LIMIT writes the `tx` port at most (R161, R225). -/
theorem exec_statusLimit_eq_emit (limit : Limit) (s : State) :
    ∃ ev, exec (.statusLimit limit) s = .next (s.emit ev) := by
  cases h : s.halted with
  | true => exact ⟨none, congrArg Host.Outcome.next (if_pos h)⟩
  | false => exact ⟨some limit, congrArg Host.Outcome.next (if_neg (by rw [h]; nofun))⟩

/-- Settles O23: an inbound instruction is a cycle, whose frame `State.cycle_frame` says; the outbound one writes `tx`
alone. -/
theorem execFrame : Obligations.ExecFrame := by
  intro i s t hexec
  by_cases hi : i.format = .status
  case neg =>
    obtain rfl := Host.Outcome.next.inj ((exec_eq_cycle hi s).symm.trans hexec)
    obtain ⟨hbuild, haddr, hsel, hind, hhalted, hcause, hdip, hbus, hrx, hupper, hlower, hscript⟩ :=
      s.cycle_frame (commandOfInstr s.build.powerEncoding i)
    exact ⟨hbuild, haddr, hsel, hind, hhalted, hcause, hdip, hbus, hrx, hupper, hlower, hscript,
      fun hstatus => absurd hstatus hi⟩
  case pos =>
    cases i with
    | statusLimit limit =>
      obtain ⟨ev, hemit⟩ := exec_statusLimit_eq_emit limit s
      obtain rfl := Host.Outcome.next.inj (hemit.symm.trans hexec)
      simp
    | _ => cases hi

/-- Settles O30: the step is a cycle (`State.cycle_frame`) and a move of the input ports, which reaches none of these
registers. -/
theorem stepFrame : Obligations.StepFrame := by
  intro s t hstep
  obtain rfl := eq_of_step_eq_next hstep
  obtain ⟨hbuild, haddr, hsel, hind, hhalted, hcause, hdip, hbus, -⟩ := s.cycle_frame s.command
  simp [hbuild, haddr, hsel, hind, hhalted, hcause, hdip, hbus]

/-- Settles O29: such a cycle drives the legs anew from the motor as it stands, and the invariant says that they carry
those duties already (R180). -/
theorem noCommandNoChange : Obligations.NoCommandNoChange := by
  intro s t hs hrun hcmd hfree hstep
  rw [step_of_no_command hrun hcmd, State.finish_of_no_fire _ hfree] at hstep
  obtain rfl := Host.Outcome.next.inj hstep
  have hmotor : s.setMotor ⟨s.mode, s.mag⟩ = s := rfl
  have hA : s.dutyA = (legDuties s.motor).1 := congrArg Prod.fst hs.legs
  have hB : s.dutyB = (legDuties s.motor).2 := congrArg Prod.snd hs.legs
  simp [hmotor, hA, hB]

/-! ### Runs -/

/-- Settles O33, by induction on the number of cycles: every step answers a next state (R204). -/
theorem runsNeverEnd : Obligations.RunsNeverEnd := by
  intro k
  induction k with
  | zero => exact fun s => ⟨s, rfl⟩
  | succ k ih =>
    intro s
    rw [run_succ (M := core) (step_eq_cycle_command s)]
    exact ih _

end Machine

end Sys2Proof
end

section
/-! PROOFS. The one exception (R220 to R227): what fault entry leaves at power-on, and that a halted node keeps every
register and sends nothing until the next power-cycle. -/

namespace Sys2Proof.Machine

/-! ### The registers of R22 from state to state -/

theorem State.sameRegisters.refl (s : State) : s.sameRegisters s := by simp [State.sameRegisters]

theorem State.sameRegisters.trans {s t u : State} (hst : s.sameRegisters t) (htu : t.sameRegisters u) :
    s.sameRegisters u := by
  obtain ⟨hbuild, haddr, hsel, hind, hmode, hmag, hA, hB, hhalted, hcause⟩ := hst
  obtain ⟨hbuild', haddr', hsel', hind', hmode', hmag', hA', hB', hhalted', hcause'⟩ := htu
  exact ⟨hbuild'.trans hbuild, haddr'.trans haddr, hsel'.trans hsel, hind'.trans hind, hmode'.trans hmode,
    hmag'.trans hmag, hA'.trans hA, hB'.trans hB, hhalted'.trans hhalted, hcause'.trans hcause⟩

/-- Among those registers are the two legs that the outside sees (R206). -/
theorem State.sameRegisters.duties {s t : State} (h : s.sameRegisters t) : t.dutyA = s.dutyA ∧ t.dutyB = s.dutyB := by
  obtain ⟨-, -, -, -, -, -, hA, hB, -⟩ := h
  exact ⟨hA, hB⟩

/-- The halted cycle writes the `tx` port alone, and the move of the input ports writes no register (R58, R225). -/
theorem State.sameRegisters_haltedCycle (s : State) : s.sameRegisters s.haltedCycle.nextInputs := by
  simp [State.sameRegisters, State.haltedCycle]

/-! ### The halted node -/

/-- Every instruction of a halted node is the halted cycle, the outbound one too (R225). -/
theorem exec_of_halted {s : State} (h : s.halted = true) (i : Instr) : exec i s = .next s.haltedCycle := by
  by_cases hi : i.format = .status
  case neg => rw [exec_eq_cycle hi, s.cycle_of_halted _ h]
  case pos =>
    cases i with
    | statusLimit limit => exact congrArg Host.Outcome.next (if_pos h)
    | _ => cases hi

/-- Every step of a halted node is the halted cycle and the move of the input ports (R225). -/
theorem step_of_halted {s : State} (h : s.halted = true) : step s = .next s.haltedCycle.nextInputs := by
  rw [step_eq_cycle_command, s.cycle_of_halted _ h]

theorem State.haltedCycle_nextInputs_tx (s : State) : s.haltedCycle.nextInputs.tx = none :=
  s.haltedCycle.nextInputs_tx

/-- A halted cycle leaves the node halted, so the next one is a halted cycle again. -/
theorem State.haltedCycle_nextInputs_halted {s : State} (h : s.halted = true) :
    s.haltedCycle.nextInputs.halted = true := s.haltedCycle.nextInputs_halted.trans h

/-- Settles O52: an instruction and a step are each one halted cycle. -/
theorem haltedNodeRunsNothing : Obligations.HaltedNodeRunsNothing := fun s h =>
  ⟨exec_of_halted h, _, step_of_halted h, s.sameRegisters_haltedCycle, s.haltedCycle_nextInputs_tx⟩

/-- No register changes in any number of cycles of a halted node. -/
theorem run_of_halted (k : Nat) {s t : State} (h : s.halted = true) (ht : Host.Core.run core k s = .next t) :
    s.sameRegisters t := by
  induction k generalizing s with
  | zero => cases ht; exact State.sameRegisters.refl _
  | succ k ih =>
    rw [run_succ (M := core) (step_of_halted h)] at ht
    exact (State.sameRegisters_haltedCycle _).trans (ih (State.haltedCycle_nextInputs_halted h) ht)

/-- What the outside sees of a halted node: the legs as they stood at the start, and no frame. -/
theorem trace_of_halted (k : Nat) (s : State) (h : s.halted = true) :
    ∀ o ∈ trace k s, o.tx = none ∧ o.dutyA = s.dutyA ∧ o.dutyB = s.dutyB := by
  induction k generalizing s with
  | zero => exact fun o ho => absurd ho List.not_mem_nil
  | succ k ih =>
    obtain ⟨hA, hB⟩ := s.sameRegisters_haltedCycle.duties
    have htail := ih _ (State.haltedCycle_nextInputs_halted h)
    rw [hA, hB] at htail
    rw [trace_succ (step_of_halted h), List.forall_mem_cons]
    exact ⟨⟨s.haltedCycle_nextInputs_tx, hA, hB⟩, htail⟩

/-- Settles O53: a run of halted cycles keeps every register, and power-on sets `halted` from the bus outcome alone
(R226, R250). -/
theorem haltedForEver : Obligations.HaltedForEver :=
  ⟨fun k _ _ h ht => ⟨run_of_halted k h ht, trace_of_halted k _ h⟩, fun s hbus => by rw [s.powerCycle_halted, hbus]; rfl⟩

/-! ### Fault entry -/

/-- Settles O49: the registers that fault entry writes, and the address, which depends on the build and the switches
alone (R102, R224). -/
theorem busInitFailureHaltsTheNode : Obligations.BusInitFailureHaltsTheNode := by
  intro s hbus
  have hind : s.powerCycle.indicator = .faultBlink := by
    rw [s.powerCycle_indicator, hbus]; exact indicatorAfterReset_halted _
  refine ⟨?halted, ?cause, hind, s.powerCycle_dutyA, s.powerCycle_dutyB, ?address, ?selector⟩
  case halted => rw [s.powerCycle_halted, hbus]; rfl
  case cause => rw [s.powerCycle_faultCause, hbus]; rfl
  case address => rw [State.powerCycle_nodeAddress, State.powerCycle_nodeAddress]
  case selector => rw [State.powerCycle_selector, State.powerCycle_selector]

end Sys2Proof.Machine
end

section
/-! PROOFS. A power-cycle forgets every register (R251). -/

namespace Sys2Proof.Machine

/-- Settles O50. The power-on value of each register is a function of the inputs its case rewrites with: the build, the
switches and the bus outcome (R250), none of them a register that a cycle writes. -/
theorem powerCycleForgetsEveryRegister : Obligations.PowerCycleForgetsEveryRegister := by
  intro s s' hbuild hdip hbus
  refine ⟨⟨?build, ?address, ?selector, ?indicator, ?mode, ?mag, ?dutyA, ?dutyB, ?halted, ?cause⟩, ?tx⟩
  case build => simp only [State.powerCycle_build, hbuild]
  case address => simp only [State.powerCycle_nodeAddress, hbuild, hdip]
  case selector => simp only [State.powerCycle_selector, hdip]
  case indicator => simp only [State.powerCycle_indicator, hdip, hbus]
  case mode => simp only [State.powerCycle_mode]
  case mag => simp only [State.powerCycle_mag, hbuild]
  case dutyA => simp only [State.powerCycle_dutyA]
  case dutyB => simp only [State.powerCycle_dutyB]
  case halted => simp only [State.powerCycle_halted, hbus]
  case cause => simp only [State.powerCycle_faultCause, hbus]
  case tx => simp only [State.powerCycle_tx]

end Sys2Proof.Machine
end
